-- ==== Sys2Proof/Word.lean ====
section
/-!
DEFINITION. The value types of the LV2460: bytes, counter words, and the index types of its tables.
Weights are exact integers (`Int`), stock is counted in `Nat`, and only what travels or wraps in a
stated width is a bit vector (spec 0.8).
-/

namespace Sys2Proof

/-- One byte of a frame or of a table record (R187). -/
abbrev Byte := BitVec 8

/-- A 32-bit value of the part that wraps: seconds, minutes, lifetime totals, node counts (spec 0.8). -/
abbrev Word := BitVec 32

/-- A slot number, 0 to 255 (spec 0.6). -/
abbrev Slot := Fin 256

/-- A channel index, `(n - 1) * 8 + k` (spec 0.6). -/
abbrev Chan := Fin 256

/-- A position of the node state table: node address `n` (1 to 32) is position `n - 1` (R138). -/
abbrev Node := Fin 32

/-- A restock session id, 0 to 7 (R108). -/
abbrev SessionId := Fin 8

/-- A request source, 0 to 7 (R179). -/
abbrev Source := Fin 8

/-- The slot numbers in ascending order. -/
def allSlots : List Slot := List.finRange 256

/-- The channel indexes in ascending order. -/
def allChans : List Chan := List.finRange 256

/-- The session ids in ascending order. -/
def allSessions : List SessionId := List.finRange 8

/-- Replaced by the nearest end of the stated range when it falls outside (spec 0.8, "Clamped"). -/
def clamp (lo hi x : Int) : Int := max lo (min hi x)

end Sys2Proof
end

