-- ==== Sys2Proof/Config.lean ====
section
/-!
DEFINITION. The fixed sizes of the LV2460. The spec leaves no implementation-defined constant and no
undefined result, so this file declares no free value; every number below is the spec's.
-/

namespace Sys2Proof.Config

/-- Entries of the alert queue (R123). -/
abbrev alertCapacity : Nat := 64

/-- Frames of the forward queue, the return queue and the request queue (R161, R162, R163). -/
abbrev queueCapacity : Nat := 4

/-- Nodes of the motion list (R149). -/
abbrev motionCapacity : Nat := 8

/-- Members a bank may route to one slot (R5). -/
abbrev memberLimit : Nat := 4

/-- The clamp of a channel's grams (R25). -/
abbrev gramClamp : Int := 1048575

/-- The limit of the confirmed count (R57). -/
abbrev countMax : Nat := 65535

/-- The saturation limit of the window removed sum (R97). -/
abbrev removedMax : Nat := 16777215

/-- The projection that means "none" (R100). -/
abbrev noProjection : Nat := 65535

/-- The saturation limit of the error counters (R174). -/
abbrev counterMax : Nat := 65535

/-- The saturation limit of the capture overflow counts (R154, R185). -/
abbrev overflowMax : Nat := 255

/-- The largest payload of a frame (R159). -/
abbrev maxPayload : Nat := 240

/-- The result bytes one response part carries (R189). -/
abbrev partBytes : Nat := 237

/-- The largest slot tare a record may hold (Table 1-6). -/
abbrev tareMax : Nat := 1048575

/-- The own station address is this plus the ADDR[2:0] value (spec 0.7). -/
abbrev stationBase : Nat := 56

/-- The ZERO command code (R152). -/
abbrev zeroCommand : Byte := 0x21

/-- How many decisions the trunk arbiter can need in one event: a SKIP pass cut short by a switch
completion, a SKIP pass that sets the roster-empty mark, and a last decision (R146 to R148). -/
abbrev arbiterDecisions : Nat := 4

end Sys2Proof.Config
end

