-- ==== Sys2Proof/Syntax.lean ====
section
/-!
DEFINITION. The commands of the LV2460: one constructor for each row of spec/opcode_table.json, in the
table's order. The table gives its rows no operand fields, so an operand is what the row's own rule says
comes from outside the part: the bytes received, the strap pins, the slot or session the row names. A
management request's arguments are not operands here: they are bytes of the request frame that the
management unit takes from the head of its queue (R162, R166).
-/

namespace Sys2Proof

/-- One byte received on a serial line. `stop` is whether its stop bit was there: a byte with a
missing stop bit is a framing error (R158). -/
structure RxByte where
  data : Byte
  stop : Bool
  deriving DecidableEq, Repr

/-- How the blocks that keep minute deadlines take a minute tick. R19 offers the tick to both, and R88,
R104 and R119 let either be taken first. -/
inductive TickOrder where
  /-- All of the restock session table's work, then all of the slot engine's. -/
  | sessionsFirst
  /-- All of the slot engine's work, then all of the restock session table's. -/
  | slotsFirst
  /-- The tick itself counts the minute and the running forecast windows. What falls due by it is taken
  one by one by the rows SESSION_EXPIRY, REPEAT and FORECAST_WINDOW_CLOSE that follow (assumption 7). -/
  | separately
  deriving DecidableEq, Repr

/-- The commands, one for each row of the opcode table. -/
inductive Instr where
  /-- POWER_ON (R177); `strap` is ADDR[2:0] as sampled at the end of the reset. -/
  | powerOn (strap : BitVec 3)
  /-- PIN_RESET (R177); `strap` is ADDR[2:0] as sampled at the release of RESET. -/
  | pinReset (strap : BitVec 3)
  /-- ONE_SECOND_TICK (R18). -/
  | oneSecondTick (order : TickOrder)
  /-- MINUTE_TICK (R19): the one-second tick that is also a minute tick. -/
  | minuteTick (order : TickOrder)
  /-- REPEAT (R86): the repeat test of one slot, and its repeat. -/
  | repeatAlert (n : Slot)
  /-- SESSION_EXPIRY (R116): the deadline test of one session record, and its expiry. -/
  | sessionExpiry (id : SessionId)
  /-- FORECAST_WINDOW_CLOSE (R99): the close of one slot's forecast window. -/
  | forecastWindowClose (n : Slot)
  /-- ALINK_FRAME_RECEIVED (R159): a run of bytes arrives on the aisle link. -/
  | alinkFrameReceived (bytes : List RxByte)
  /-- ALINK_GAP_ABANDON (R160): a gap of more than 2 ms on the aisle link. -/
  | alinkGapAbandon
  /-- LOAD_RECORDS (R168): the management unit takes such a request from the head of its queue. -/
  | loadRecords
  /-- READ_RECORDS (R170). -/
  | readRecords
  /-- COPY_BANK (R171). -/
  | copyBank
  /-- SWITCH_BANK (R10). -/
  | switchBank
  /-- CANCEL_SWITCH (R11). -/
  | cancelSwitch
  /-- OPEN_RESTOCK (R113). -/
  | openRestock
  /-- CLOSE_RESTOCK (R115). -/
  | closeRestock
  /-- ACK_SLOT (R89). -/
  | ackSlot
  /-- SET_ALERT_MASK (R132). -/
  | setAlertMask
  /-- SET_ZONE (R182). -/
  | setZone
  /-- SET_SOURCE_RIGHTS (R183). -/
  | setSourceRights
  /-- LOCK_ZONES (R184). -/
  | lockZones
  /-- READ_STATUS (R173). -/
  | readStatus
  /-- READ_SLOT (R173). -/
  | readSlot
  /-- READ_CHANNEL (R173). -/
  | readChannel
  /-- READ_NODES (R173). -/
  | readNodes
  /-- READ_COUNTERS (R174). -/
  | readCounters
  /-- CLEAR_COUNTERS (R174). -/
  | clearCounters
  /-- READ_FAULTS (R175). -/
  | readFaults
  /-- SOFT_RESET (R176). -/
  | softReset
  /-- UNDEFINED_REQUEST (R166): a request whose header, code or shape fails the checks. -/
  | undefinedRequest
  /-- RESET_POINT (R176). -/
  | resetPoint
  /-- RESPONSE_PART_GRANT (R164). -/
  | responsePartGrant
  /-- RETURN_FRAME_GRANT (R163). -/
  | returnFrameGrant
  /-- ALERT_GRANT (R134). -/
  | alertGrant
  /-- UPLINK_FRAME_DONE (R164). -/
  | uplinkFrameDone
  /-- TRUNK_FRAME_SENT (R142). -/
  | trunkFrameSent
  /-- TRUNK_FRAME_RECEIVED (R143): a run of bytes arrives on the shelf trunk. -/
  | trunkFrameReceived (bytes : List RxByte)
  /-- TRUNK_GAP_ABANDON (R142): a gap of more than 2 ms on the shelf trunk. -/
  | trunkGapAbandon
  /-- REPLY_WINDOW_CLOSE (R143). -/
  | replyWindowClose
  /-- LISTEN_PERIOD_END (R156). -/
  | listenPeriodEnd
  /-- HUNT_BYTE_RECEIVED (R158): one byte arrives on the aisle link while the assembler is in HUNT. -/
  | huntByteReceived (b : RxByte)
  /-- TRUNK_FRAME_ABANDONED (R142): one byte arrives that abandons the trunk frame in reception. -/
  | trunkFrameAbandoned (b : RxByte)
  deriving DecidableEq, Repr

end Sys2Proof
end

