-- ==== Sys2Proof/Decode.lean ====
section
/-!
DEFINITION. Command words. spec/opcode_table.json gives bits to none of its 42 rows: the commands of this
block are events and requests, not encoded words. So no word spells a command.
-/

namespace Sys2Proof

/-- The command that a word of `nbits` bits spells by the table's bits: none, since no row has bits. -/
def decodeTableWord (_nbits _w : Nat) : Option Instr := none

end Sys2Proof
end

