-- ==== Sys2Proof/Machine/State.lean ====
section
/-!
DEFINITION. The state of the LV2460, block by block as Table 1-1 lists the blocks, with the reset values
each chapter gives. Everything is plain data. A field that the spec calls absent in some states is an
`Option`; a flag whose companion field is present exactly while it is set (the faulted flag and its
reason, the in-motion flag and the motion start, the inspection flag and its reason, the held-back flag
and the held kind, the switch-pending state and the requested bank) is the `Option` itself.
-/

namespace Sys2Proof.Machine

/-! ## Stops -/

/-- Why the machine stops with a fault: never. The spec names no event that stops the part, so this
type has no constructor and nothing raises it (safe). -/
inductive Fault where
  deriving DecidableEq, Repr

/-- Why a command has no meaning. -/
inductive Refusal where
  /-- The row has no meaning in the model. Raised by `exec` alone, by no arm of the present model (safe). -/
  | notModelled (mnemonic : String)
  deriving DecidableEq, Repr

/-! ## Table store (chapter 1) -/

/-- The two banks (R1). -/
inductive BankId where
  | A
  | B
  deriving DecidableEq, Repr

/-- The bank that is not the named one. -/
def BankId.other : BankId → BankId
  | .A => .B
  | .B => .A

/-- The trigger modes of Table 1-6. -/
inductive TriggerMode where
  | off
  | once
  | repeating
  deriving DecidableEq, Repr

/-- A slot configuration record (Table 1-6), each field in the width Table 12-5 gives it. -/
structure SlotCfg where
  enabled : Bool
  article : Word
  unitWeight : BitVec 16
  tare : BitVec 24
  tolerance : Byte
  width : BitVec 6
  threshold : BitVec 6
  band : BitVec 16
  reorder : BitVec 16
  clear : BitVec 16
  mode : TriggerMode
  interval : Byte
  notify : Bool
  emptyAlert : Bool
  urgentClass : Bool
  putLimit : Byte
  ambiguity : Byte
  motionLimit : Byte
  forecast : Byte
  lead : BitVec 16
  deriving DecidableEq, Repr

/-- A slot configuration record at its reset values: 0 in every field (R8). -/
def SlotCfg.reset : SlotCfg where
  enabled := false
  article := 0
  unitWeight := 0
  tare := 0
  tolerance := 0
  width := 0
  threshold := 0
  band := 0
  reorder := 0
  clear := 0
  mode := .off
  interval := 0
  notify := false
  emptyAlert := false
  urgentClass := false
  putLimit := 0
  ambiguity := 0
  motionLimit := 0
  forecast := 0
  lead := 0

/-- The source of a member (spec 0.6). -/
inductive MemberSource where
  | live
  | hold
  | zero
  deriving DecidableEq, Repr

/-- A channel map record (Table 1-7). `route` is `none` for UNROUTED. -/
structure ChanMap where
  route : Option Slot
  source : MemberSource
  invert : Bool
  offset : BitVec 24
  gain : BitVec 16
  deriving DecidableEq, Repr

/-- A channel map record at its reset values (R8). -/
def ChanMap.reset : ChanMap where
  route := none
  source := .live
  invert := false
  offset := 0
  gain := 0

/-- The roster header, position 128 of the poll roster (R6). -/
structure RosterHeader where
  length : Byte
  interleave : Byte
  timeout : Byte
  deriving DecidableEq, Repr

/-- The roster header at its reset values: length 0, interleave 0, reply timeout 4 ms (R8). -/
def RosterHeader.reset : RosterHeader where
  length := 0
  interleave := 0
  timeout := 4

/-- One bank: the three tables of Table 1-5. A roster entry is `none` for SKIP. -/
structure Bank where
  cfgs : Vector SlotCfg 256
  chans : Vector ChanMap 256
  roster : Vector (Option Node) 128
  header : RosterHeader
  deriving DecidableEq, Repr

/-- An emptied bank (R8). It is also what the part acts by while the serving bank is NONE: every slot
disabled, every channel unrouted, no roster, and a reply timeout of 4 ms (R9). -/
def Bank.reset : Bank where
  cfgs := Vector.replicate 256 SlotCfg.reset
  chans := Vector.replicate 256 ChanMap.reset
  roster := Vector.replicate 128 none
  header := RosterHeader.reset

/-- The table store. `serving` is `none` for NONE; `requested` is present while a switch is pending. -/
structure TableStore where
  bankA : Bank
  bankB : Bank
  serving : Option BankId
  requested : Option BankId
  deriving DecidableEq, Repr

/-- The table store after power-on and pin reset (R8, R17). -/
def TableStore.reset : TableStore where
  bankA := Bank.reset
  bankB := Bank.reset
  serving := none
  requested := none

/-! ## Time base (section 1.3) -/

/-- The seconds counter, the minutes counter and the minute phase (R18, R19). -/
structure TimeBase where
  seconds : Word
  minutes : Word
  phase : Nat
  deriving DecidableEq, Repr

/-- The time base after power-on and pin reset (R21). -/
def TimeBase.reset : TimeBase where
  seconds := 0
  minutes := 0
  phase := 0

/-! ## Channel conversion unit (chapter 2) -/

/-- The status of a raw reading (section 2.2). -/
inductive ReadStatus where
  | ok
  | over
  | under
  | nodeFault
  deriving DecidableEq, Repr

/-- A raw reading: its status and its signed 24-bit count. -/
structure Reading where
  status : ReadStatus
  count : BitVec 24
  deriving DecidableEq, Repr

/-- A channel record of the CCU (Table 2-1). -/
structure ChanRec where
  lastRaw : Option Reading
  lastGood : Option Int
  badStreak : Nat
  rezero : Bool
  deriving DecidableEq, Repr

/-- A channel record after every reset (R29). -/
def ChanRec.reset : ChanRec where
  lastRaw := none
  lastGood := none
  badStreak := 0
  rezero := false

/-! ## Slot engine (chapters 2 to 6) -/

/-- The reason of a slot fault (section 2.4). -/
inductive FaultReason where
  | nodeSilent
  | badSamples
  deriving DecidableEq, Repr

/-- The reason of an inspection (Table 4-2). -/
inductive InspectReason where
  | motion
  | ambiguous
  | addition
  deriving DecidableEq, Repr

/-- The stock states (Table 5-2). -/
inductive StockState where
  | unknown
  | stocked
  | low
  | empty
  deriving DecidableEq, Repr

/-- The alert kinds (Table 8-1, Table 12-7). -/
inductive AlertKind where
  | lapsed
  | recovered
  | forecast
  | inspect
  | low
  | empty
  | fault
  deriving DecidableEq, Repr

/-- An open settle window (Table 3-2). -/
structure Window where
  anchor : Int
  sum : Int
  agree : Nat
  count : Nat
  deriving DecidableEq, Repr

/-- A slot live record. -/
structure SlotLive where
  /-- Fresh mask, position 0 the first member (R30). -/
  fresh : BitVec 4
  /-- Faulted flag and fault reason (section 2.4). -/
  fault : Option FaultReason
  /-- Settle window, `none` while empty (R40). -/
  window : Option Window
  /-- In-motion flag and motion start (section 3.3). -/
  motion : Option Word
  /-- Motion-reported flag (section 3.3). -/
  motionReported : Bool
  /-- Last settled weight (R45). -/
  lastSettled : Option Int
  /-- Confirmed count (Table 4-2). -/
  count : Option Nat
  /-- Ambiguity streak (Table 4-2). -/
  streak : Nat
  /-- Inspection flag and inspection reason (R70). -/
  inspection : Option InspectReason
  /-- Lifetime removed total (R69). -/
  removed : Word
  /-- Lifetime put-back total (R69). -/
  putBack : Word
  /-- Lifetime replenished total (R69). -/
  replenished : Word
  /-- Stock state (Table 5-2). -/
  stock : StockState
  /-- Acknowledged flag (Table 5-2). -/
  acked : Bool
  /-- Repeat deadline (Table 5-2). -/
  deadline : Option Word
  /-- Window removed sum Sw (Table 6-2). -/
  removedSum : Nat
  /-- Window elapsed minutes, present while the forecast window is running (Table 6-2). -/
  elapsed : Option Nat
  /-- Last rate Rl (Table 6-2). -/
  rate : Option Nat
  /-- Projection (Table 6-2). -/
  projection : Nat
  /-- Armed flag (Table 6-2). -/
  armed : Bool
  /-- Deficit-at-open flag (R114). -/
  deficit : Bool
  /-- Held-back flag and held kind, which belong to the alert queue (R125). -/
  held : Option AlertKind
  deriving DecidableEq, Repr

/-- A slot live record after power-on, pin reset and SOFT_RESET (R39, R55, R73, R93, R106, R114, R137). -/
def SlotLive.reset : SlotLive where
  fresh := 0
  fault := none
  window := none
  motion := none
  motionReported := false
  lastSettled := none
  count := none
  streak := 0
  inspection := none
  removed := 0
  putBack := 0
  replenished := 0
  stock := .unknown
  acked := false
  deadline := none
  removedSum := 0
  elapsed := none
  rate := none
  projection := Config.noProjection
  armed := true
  deficit := false
  held := none

/-! ## Restock session table (chapter 7) -/

/-- The fields of an OPEN session record (Table 7-1). Its id is its position; FREE is `none`. -/
structure Session where
  first : Slot
  last : Slot
  opener : Source
  openedAt : Word
  deadline : Word
  added : Word
  deriving DecidableEq, Repr

/-! ## Alert queue (chapter 8) -/

/-- The key of an alert: a slot, or a session for LAPSED (Table 8-2). -/
inductive AlertKey where
  | slot (n : Slot)
  | session (id : SessionId)
  deriving DecidableEq, Repr

/-- The reason an alert carries (Table 8-2). -/
inductive AlertReason where
  | noReason
  | motion
  | ambiguous
  | addition
  | nodeSilent
  | badSamples
  deriving DecidableEq, Repr

/-- What an alert carries (Table 8-2, but for the tier). -/
structure Alert where
  key : AlertKey
  kind : AlertKind
  reason : AlertReason
  count : Option Nat
  added : Option Word
  projection : Option Nat
  article : Option Word
  time : Word
  deriving DecidableEq, Repr

/-- An entry of the alert queue: the alert and its tier (Table 8-2). -/
structure AlertEntry where
  alert : Alert
  urgent : Bool
  deriving DecidableEq, Repr

/-! ## Frames (chapter 12) -/

/-- A frame without its preamble; its length byte is the length of `payload` (Table 12-1). `crc` is the
CRC it carries, right or wrong. -/
structure Frame where
  addr : Byte
  kind : Byte
  payload : List Byte
  crc : BitVec 16
  deriving DecidableEq, Repr

/-- The states of a receive assembler (Table 10-1). -/
inductive RxState where
  | hunt
  | header
  | body
  | check
  deriving DecidableEq, Repr

/-- A receive assembler: its state, the preamble count and the frame in assembly (Table 10-1). `kind`
is present once the kind byte has been taken, `crcHigh` once the first CRC byte has. -/
structure Assembler where
  state : RxState
  preamble : Nat
  addr : Byte
  kind : Option Byte
  length : Nat
  payload : List Byte
  crcHigh : Option Byte
  deriving DecidableEq, Repr

/-- An assembler in HUNT with a preamble count of 0 (R158). -/
def Assembler.reset : Assembler where
  state := .hunt
  preamble := 0
  addr := 0
  kind := none
  length := 0
  payload := []
  crcHigh := none

/-! ## Trunk controller (chapter 9) -/

/-- The states of a node (R138). -/
inductive NodeState where
  | unseen
  | alive
  | silent
  deriving DecidableEq, Repr

/-- A node record (R138). -/
structure NodeRec where
  state : NodeState
  streak : Nat
  polls : Word
  misses : Word
  late : Word
  deriving DecidableEq, Repr

/-- A node record after every reset (R157). -/
def NodeRec.reset : NodeRec where
  state := .unseen
  streak := 0
  polls := 0
  misses := 0
  late := 0

/-- The rezero set of a ZERO transaction (R152). -/
structure RezeroSet where
  chans : List Chan
  slots : List Slot
  deriving DecidableEq, Repr

/-- What a transaction is: a poll to a node with its tag, or a forward. The node of a forward is absent
for a broadcast, and its rezero set is present for a ZERO. -/
inductive TxnKind where
  | poll (node : Node) (tag : BitVec 4) (motion : Bool)
  | forward (node : Option Node) (rezero : Option RezeroSet)
  deriving DecidableEq, Repr

/-- The transaction in flight: the frame sent, whether it is still being sent (TRK_DE high, R141) or
its reply window is open, and the reply timeout in milliseconds read when it started (R142). -/
structure Transaction where
  kind : TxnKind
  frame : Frame
  sending : Bool
  timeout : Nat
  deriving DecidableEq, Repr

/-- The last transaction kind (R146). -/
inductive TxnClass where
  | poll
  | forward
  deriving DecidableEq, Repr

/-- The record of the trunk capture (R154). Its reason is always SILENT. -/
structure TrunkCapture where
  node : Node
  time : Word
  overflow : Bool
  overflowCount : Nat
  deriving DecidableEq, Repr

/-- The trunk controller (Table 9-1), with the assembler of trunk frames (R142) and the listening period
in milliseconds while one runs (R156). -/
structure Trunk where
  nodes : Vector NodeRec 32
  txn : Option Transaction
  listening : Option Nat
  rx : Assembler
  pollTag : BitVec 4
  forwards : List Frame
  lastKind : TxnClass
  rosterPtr : Nat
  rosterEmpty : Bool
  interleave : Nat
  motionList : List Node
  motionPtr : Nat
  capture : Option TrunkCapture
  deriving DecidableEq, Repr

/-- The trunk controller after power-on and pin reset (R157). -/
def Trunk.reset : Trunk where
  nodes := Vector.replicate 32 NodeRec.reset
  txn := none
  listening := none
  rx := Assembler.reset
  pollTag := 0
  forwards := []
  lastKind := .poll
  rosterPtr := 0
  rosterEmpty := false
  interleave := 0
  motionList := []
  motionPtr := 0
  capture := none

/-! ## Aisle link interface (chapter 10) -/

/-- The frame being sent on the uplink. `resets` marks the response to a SOFT_RESET, whose last byte is
the reset point (R176). -/
structure UplinkFrame where
  frame : Frame
  resets : Bool
  deriving DecidableEq, Repr

/-- The aisle link interface (Table 10-1). `uplink` is `none` while the uplink is idle. -/
structure AisleLink where
  rx : Assembler
  returns : List Frame
  uplink : Option UplinkFrame
  alertSeq : BitVec 4
  deriving DecidableEq, Repr

/-- The aisle link interface after every reset (R177). -/
def AisleLink.reset : AisleLink where
  rx := Assembler.reset
  returns := []
  uplink := none
  alertSeq := 0

/-! ## Management unit (chapter 10) -/

/-- The reset causes (Table 10-1). -/
inductive ResetCause where
  | power
  | pin
  | soft
  deriving DecidableEq, Repr

/-- The ten error counters (Table 10-4). -/
structure Counters where
  gap : Nat
  length : Nat
  crc : Nat
  framing : Nat
  misdirected : Nat
  requestDrop : Nat
  forwardDrop : Nat
  returnDrop : Nat
  motionOverflow : Nat
  queueOverflow : Nat
  deriving DecidableEq, Repr

/-- The error counters at 0 (R174). -/
def Counters.zero : Counters := ⟨0, 0, 0, 0, 0, 0, 0, 0, 0, 0⟩

/-- The response in hand: the tag of the request it answers and the payloads of the parts not yet
granted the uplink, in order (R166, R189). -/
structure Response where
  tag : BitVec 4
  parts : List (List Byte)
  deriving DecidableEq, Repr

/-- The management unit (Table 10-1). `softReset` is set from an accepted SOFT_RESET to its reset point
(R176). Bit `k` of `mask` suppresses the alert kind whose code is `k + 1` (R189). -/
structure Mgmt where
  requests : List Frame
  response : Option Response
  softReset : Bool
  cause : ResetCause
  counters : Counters
  mask : BitVec 7
  deriving DecidableEq, Repr

/-- The management unit after power-on and pin reset (R177, R132). -/
def Mgmt.reset (cause : ResetCause) : Mgmt where
  requests := []
  response := none
  softReset := false
  cause := cause
  counters := Counters.zero
  mask := 0

/-! ## Zone table (chapter 11) -/

/-- A set of slot rights (section 11.1). -/
structure GrantSet where
  config : Bool
  session : Bool
  ack : Bool
  deriving DecidableEq, Repr

/-- A zone (R178). -/
structure Zone where
  first : Slot
  last : Slot
  grants : Vector GrantSet 8
  deriving DecidableEq, Repr

/-- A zone after power-on and pin reset: it covers no slot and grants nothing (R178). -/
def Zone.reset : Zone where
  first := 255
  last := 0
  grants := Vector.replicate 8 ⟨false, false, false⟩

/-- A source rights entry (R179). -/
structure SourceRights where
  plan : Bool
  admin : Bool
  dflt : GrantSet
  deriving DecidableEq, Repr

/-- A source rights entry after power-on and pin reset: every right granted (R179). -/
def SourceRights.reset : SourceRights where
  plan := true
  admin := true
  dflt := ⟨true, true, true⟩

/-- The record of the protection capture (R185). -/
structure ProtCapture where
  source : Source
  code : Byte
  slot : Option Slot
  time : Word
  overflow : Bool
  overflowCount : Nat
  deriving DecidableEq, Repr

/-- The zone table block (Table 1-1): zones, source rights, lock and protection capture. -/
structure Zones where
  zones : Vector Zone 4
  rights : Vector SourceRights 8
  locked : Bool
  capture : Option ProtCapture
  deriving DecidableEq, Repr

/-- The zone table block after power-on and pin reset (R178, R179, R184, R186). -/
def Zones.reset : Zones where
  zones := Vector.replicate 4 Zone.reset
  rights := Vector.replicate 8 SourceRights.reset
  locked := false
  capture := none

/-! ## The machine -/

/-- The state of the LV2460 and the queue of the commands that wait, first in, first out. -/
structure State where
  /-- Time base (R18 to R21). -/
  time : TimeBase
  /-- ADDR[2:0] as sampled at the end of the last power-on or pin reset (R161). -/
  strap : BitVec 3
  /-- Table store (chapter 1). -/
  store : TableStore
  /-- Channel records of the CCU (R22). -/
  chans : Vector ChanRec 256
  /-- Slot live records (chapters 2 to 8). -/
  slots : Vector SlotLive 256
  /-- Session records (R108). -/
  sessions : Vector (Option Session) 8
  /-- Alert queue, in queue order (R123). -/
  alerts : List AlertEntry
  /-- Zone table (chapter 11). -/
  zones : Zones
  /-- Trunk controller (chapter 9). -/
  trunk : Trunk
  /-- Aisle link interface (chapter 10). -/
  link : AisleLink
  /-- Management unit (chapter 10). -/
  mgmt : Mgmt
  /-- The commands that wait. -/
  pending : List Instr
  deriving DecidableEq, Repr

/-- The part right after a power-on or pin reset with the given cause and strap sample. -/
def State.powered (cause : ResetCause) (strap : BitVec 3) (pending : List Instr) : State where
  time := TimeBase.reset
  strap := strap
  store := TableStore.reset
  chans := Vector.replicate 256 ChanRec.reset
  slots := Vector.replicate 256 SlotLive.reset
  sessions := Vector.replicate 8 none
  alerts := []
  zones := Zones.reset
  trunk := Trunk.reset
  link := AisleLink.reset
  mgmt := Mgmt.reset cause
  pending := pending

/-- The machine right after power-on with ADDR[2:0] tied to 0 (assumption 1) and no command waiting. -/
def State.reset : State := State.powered .power 0 []

end Sys2Proof.Machine
end

