-- ==== Sys2Proof/Machine/Flags.lean ====
section
/-!
DEFINITION. The small computations on counters, deadlines, alert kinds and stock states that several
rules share: each is a plain function of values, with no state.
-/

namespace Sys2Proof.Machine

/-! ## Counters and time -/

/-- Increase by 1, saturating at `top` (spec 0.8, "Saturating"). -/
def satInc (top x : Nat) : Nat := min top (x + 1)

/-- A minute deadline `d` is reached at the minutes count `now` (R20). -/
def reached (now d : Word) : Bool := (now - d).toNat < 2 ^ 31

/-- The repeat deadline after a repeat at `now`: advanced by the interval until it is not reached (R86).
The number of advances is computed at once: `e` minutes past the deadline need `e / interval + 1`. -/
def advanceDeadline (now d : Word) (interval : Nat) : Word :=
  d + BitVec.ofNat 32 (interval * ((now - d).toNat / interval + 1))

/-- Add a number of units to a lifetime total or to units added, wrapping (R63, R64, R65). -/
def addUnits (total : Word) (k : Nat) : Word := total + BitVec.ofNat 32 k

/-! ## Alert kinds -/

/-- The alert kind codes of Table 12-7. They equal the ranks of Table 8-1; LAPSED takes 1 (R191). -/
def AlertKind.code : AlertKind → Nat
  | .lapsed => 1
  | .recovered => 2
  | .forecast => 3
  | .inspect => 4
  | .low => 5
  | .empty => 6
  | .fault => 7

/-- The tier of a raised alert of this kind, for a slot of the given urgent class (R124). -/
def AlertKind.urgent (k : AlertKind) (urgentClass : Bool) : Bool :=
  match k with
  | .fault => true
  | .empty => true
  | .low => urgentClass
  | .inspect => false
  | .forecast => false
  | .recovered => false
  | .lapsed => false

/-- The kinds that a RECOVERED cancels when queued or held (Table 8-3, Table 8-4). -/
def AlertKind.recoverable : AlertKind → Bool
  | .low => true
  | .empty => true
  | .forecast => true
  | .inspect => false
  | .fault => false
  | .recovered => false
  | .lapsed => false

/-- The kinds that an acknowledgement withdraws when queued or held (R90). -/
def AlertKind.acknowledged : AlertKind → Bool
  | .low => true
  | .empty => true
  | .forecast => true
  | .inspect => true
  | .fault => false
  | .recovered => false
  | .lapsed => false

/-- Whether the suppression mask holds the kind: bit `k` belongs to code `k + 1` (R189). -/
def maskHas (mask : BitVec 7) (k : AlertKind) : Bool := mask.getLsbD (k.code - 1)

/-- The reason a FAULT alert carries (R35). -/
def FaultReason.alertReason : FaultReason → AlertReason
  | .nodeSilent => .nodeSilent
  | .badSamples => .badSamples

/-- The reason an INSPECT alert carries (R70). -/
def InspectReason.alertReason : InspectReason → AlertReason
  | .motion => .motion
  | .ambiguous => .ambiguous
  | .addition => .addition

/-! ## Stock states -/

/-- A slot in LOW or EMPTY is short (R114). -/
def StockState.short : StockState → Bool
  | .low => true
  | .empty => true
  | .unknown => false
  | .stocked => false

/-- Classification of a count against P and Q from the current state (Table 5-3, R76). -/
def classify (p q c : Nat) (cur : StockState) : StockState :=
  if c = 0 then .empty
  else if c ≤ p then .low
  else if q < c then .stocked
  else if cur.short then .low
  else .stocked

/-- The standing alert of a slot (Table 5-5, R79). -/
def standing (mode : TriggerMode) (emptyAlert : Bool) (st : StockState) : Option AlertKind :=
  let low := if mode = .off then none else some AlertKind.low
  match st with
  | .low => low
  | .empty => if emptyAlert then some .empty else low
  | .unknown => none
  | .stocked => none

/-- The alert of a transition, before a session withholds it (Table 5-6, R80). -/
def transitionAlert (cfg : SlotCfg) (old new : StockState) : Option AlertKind :=
  match new with
  | .low => if old.short then none else standing cfg.mode cfg.emptyAlert .low
  | .empty =>
    if old.short then (if cfg.emptyAlert then some .empty else none)
    else standing cfg.mode cfg.emptyAlert .empty
  | .stocked => if old.short && cfg.notify then some .recovered else none
  | .unknown => none

/-! ## Rounding -/

/-- Divided and rounded half away from zero by 4,096 (R25, step 3). -/
def div4096 (p : Int) : Int :=
  if 0 ≤ p then (2 * p + 4096) / 8192 else -((-2 * p + 4096) / 8192)

/-- Conversion of a good reading to grams by its channel map record (R25). -/
def toGrams (m : ChanMap) (count : BitVec 24) : Int :=
  let q := div4096 ((count.toInt - m.offset.toInt) * (m.gain.toNat : Int))
  clamp (-Config.gramClamp) Config.gramClamp (if m.invert then -q else q)

/-- A quotient rounded half up (spec 0.8). -/
def divHalfUp (x y : Int) : Int := (2 * x + y) / (2 * y)

/-- The projection from the confirmed count, the forecast window L and the last rate (R100). -/
def projectionOf (count : Option Nat) (window : Nat) (rate : Option Nat) : Nat :=
  match count, rate with
  | some c, some r => if r = 0 then Config.noProjection else min Config.noProjection (c * window / r)
  | _, _ => Config.noProjection

end Sys2Proof.Machine
end

