-- ==== Sys2Proof/Machine/Operands.lean ====
section
/-!
DEFINITION. The wire formats of chapter 12: bytes, CRC, frames, readings, table records, request
payloads and alert entries. All of it is functions of bytes and values, with no state.
-/

namespace Sys2Proof.Machine

/-! ## Bytes (R187: high byte first) -/

/-- The `k` low bytes of a number, high byte first. -/
def beBytes : Nat → Nat → List Byte
  | 0, _ => []
  | k + 1, v => BitVec.ofNat 8 (v / 256 ^ k) :: beBytes k v

/-- A number from bytes, high byte first. -/
def beNat (bs : List Byte) : Nat := bs.foldl (fun acc b => acc * 256 + b.toNat) 0

/-- A signed value of `k` bytes, two's complement. -/
def beInt (k : Nat) (x : Int) : List Byte := beBytes k (BitVec.ofInt (8 * k) x).toNat

/-- Byte `i` of a list, 0 beyond its end. -/
def byteAt (bs : List Byte) (i : Nat) : Byte := bs.getD i 0

/-- The number in the `k` bytes from byte `i` on. -/
def fieldAt (bs : List Byte) (i k : Nat) : Nat := beNat ((bs.drop i).take k)

/-- A flag on the wire: 1 when set and 0 when clear (R189). -/
def flagByte (b : Bool) : Byte := if b then 1 else 0

/-- A field of `k` bytes that may be absent: a presence byte, then its bytes, 0 when absent (R189). -/
def optBytes (k : Nat) (x : Option Nat) : List Byte :=
  flagByte x.isSome :: beBytes k (x.getD 0)

/-! ## CRC (R187) -/

/-- One bit of the CRC-16 with generator 0x1021. -/
def crcBit (c : BitVec 16) : BitVec 16 := if c.msb then (c <<< 1) ^^^ 0x1021 else c <<< 1

/-- One byte of the CRC-16, most significant bit first. -/
def crcByte (c : BitVec 16) (b : Byte) : BitVec 16 :=
  let c := c ^^^ ((b.setWidth 16) <<< 8)
  crcBit (crcBit (crcBit (crcBit (crcBit (crcBit (crcBit (crcBit c)))))))

/-- The CRC over a list of bytes, with initial value 0xFFFF. -/
def crc16 (bs : List Byte) : BitVec 16 := bs.foldl crcByte 0xFFFF

/-! ## Frames (Table 12-1) -/

/-- The bytes the CRC of a frame is computed over: address, kind, length and payload (R187). -/
def crcCovered (addr kind : Byte) (payload : List Byte) : List Byte :=
  addr :: kind :: BitVec.ofNat 8 payload.length :: payload

/-- A frame the part forms, with its CRC computed afresh (R165, R187). -/
def formFrame (addr kind : Byte) (payload : List Byte) : Frame :=
  ⟨addr, kind, payload, crc16 (crcCovered addr kind payload)⟩

/-- The received CRC equals the computed one (R159). -/
def Frame.crcOk (f : Frame) : Bool := f.crc = crc16 (crcCovered f.addr f.kind f.payload)

/-- The station address: bits 7 to 2 of the address byte. -/
def Frame.station (f : Frame) : Nat := f.addr.toNat / 4

/-- The direction bit: set toward the aisle. -/
def Frame.towardAisle (f : Frame) : Bool := f.addr.getLsbD 1

/-- The bit that is always zero in a well-formed frame. -/
def Frame.zeroBit (f : Frame) : Bool := f.addr.getLsbD 0

/-- The kind code: bits 3 to 0 of the kind byte. -/
def Frame.kindCode (f : Frame) : Nat := f.kind.toNat % 16

/-- The tag nibble: bits 7 to 4 of the kind byte. -/
def Frame.tag (f : Frame) : BitVec 4 := f.kind.extractLsb' 4 4

/-- The frame as the part sends it: a preamble of four 0xD5 bytes, then the frame (R165). -/
def Frame.wire (f : Frame) : List Byte :=
  [0xD5, 0xD5, 0xD5, 0xD5] ++ crcCovered f.addr f.kind f.payload ++ beBytes 2 f.crc.toNat

/-- Kind codes of Table 12-2. -/
abbrev kindPoll : Nat := 1
abbrev kindSample : Nat := 2
abbrev kindNodeCmd : Nat := 3
abbrev kindNodeResp : Nat := 4
abbrev kindFwdFail : Nat := 5
abbrev kindMgmtReq : Nat := 8
abbrev kindMgmtResp : Nat := 9
abbrev kindAlert : Nat := 10

/-- An address byte (Table 12-1). -/
def addrByte (station : Nat) (towardAisle : Bool) : Byte :=
  BitVec.ofNat 8 (station * 4 + (if towardAisle then 2 else 0))

/-- A kind byte (Table 12-1). -/
def kindByte (tag : BitVec 4) (kind : Nat) : Byte := BitVec.ofNat 8 (tag.toNat * 16 + kind)

/-- The address of a node. -/
def nodeAddress (n : Node) : Nat := n.val + 1

/-- The node with this address, if it is one of 1 to 32. -/
def nodeOfAddress (a : Nat) : Option Node :=
  if h : 1 ≤ a ∧ a ≤ 32 then some ⟨a - 1, by omega⟩ else none

/-- The node a frame names, if its address is that of a node. -/
def Frame.node (f : Frame) : Option Node := nodeOfAddress f.station

/-- The POLL frame to a node (R141, R188). -/
def pollFrame (n : Node) (tag : BitVec 4) : Frame :=
  formFrame (addrByte (nodeAddress n) false) (kindByte tag kindPoll) []

/-- The FWD_FAIL frame for a forwarded frame to a node (R145, R188). -/
def fwdFailFrame (n : Node) (f : Frame) : Frame :=
  formFrame (addrByte (nodeAddress n) true) (kindByte f.tag kindFwdFail) (f.payload.take 1)

/-! ## Readings (R188) -/

/-- A reading status from its byte: 4 to 255 is recorded and handled as NODE_FAULT. -/
def ReadStatus.ofByte (b : Byte) : ReadStatus :=
  match b.toNat with
  | 0 => .ok
  | 1 => .over
  | 2 => .under
  | _ => .nodeFault

/-- The code of a reading status. -/
def ReadStatus.code : ReadStatus → Nat
  | .ok => 0
  | .over => 1
  | .under => 2
  | .nodeFault => 3

/-- The readings of a SAMPLE payload, four bytes each. -/
def parseReadings : List Byte → List Reading
  | st :: a :: b :: c :: rest => ⟨.ofByte st, BitVec.ofNat 24 (beNat [a, b, c])⟩ :: parseReadings rest
  | _ => []

/-- A sample reply has a payload of 32 bytes (R188). -/
abbrev sampleLength : Nat := 32

/-! ## Status codes (Table 12-4) -/

/-- The status codes of a response. -/
inductive Status where
  | ok
  | pending
  | same
  | cancelled
  | nothingPending
  | denied
  | locked
  | bankLocked
  | activeBank
  | badRequest
  | badIndex
  | badField
  | tooMany
  | overlap
  | full
  | noSession
  deriving DecidableEq, Repr

/-- The code of a status (Table 12-4). -/
def Status.code : Status → Byte
  | .ok => 0
  | .pending => 1
  | .same => 2
  | .cancelled => 3
  | .nothingPending => 4
  | .denied => 5
  | .locked => 6
  | .bankLocked => 7
  | .activeBank => 8
  | .badRequest => 9
  | .badIndex => 10
  | .badField => 11
  | .tooMany => 12
  | .overlap => 13
  | .full => 14
  | .noSession => 15

/-! ## Codes of enumerated values (R189) -/

/-- A member's source (Table 12-5). -/
def MemberSource.code : MemberSource → Nat
  | .live => 0
  | .hold => 1
  | .zero => 2

/-- A member's source from its two bits; 3 is refused before it is used. -/
def MemberSource.ofCode : Nat → MemberSource
  | 0 => .live
  | 1 => .hold
  | _ => .zero

/-- A trigger mode (Table 12-5). -/
def TriggerMode.code : TriggerMode → Nat
  | .off => 0
  | .once => 1
  | .repeating => 2

/-- A trigger mode from its two bits; 3 is refused before it is used. -/
def TriggerMode.ofCode : Nat → TriggerMode
  | 0 => .off
  | 1 => .once
  | _ => .repeating

/-- A stock state by its position in Table 5-2. -/
def StockState.code : StockState → Byte
  | .unknown => 0
  | .stocked => 1
  | .low => 2
  | .empty => 3

/-- A node state by its position in R138. -/
def NodeState.code : NodeState → Byte
  | .unseen => 0
  | .alive => 1
  | .silent => 2

/-- A reset cause by its position in Table 10-1. -/
def ResetCause.code : ResetCause → Byte
  | .power => 0
  | .pin => 1
  | .soft => 2

/-- An alert reason by byte 3 of Table 12-6. -/
def AlertReason.code : AlertReason → Nat
  | .noReason => 0
  | .motion => 1
  | .ambiguous => 2
  | .addition => 3
  | .nodeSilent => 4
  | .badSamples => 5

/-- A bank code in results; 0 stands for NONE and for an absent requested bank. -/
def bankCode : Option BankId → Byte
  | none => 0
  | some .A => 1
  | some .B => 2

/-- A bank from its code in arguments. -/
def bankOfCode (b : Byte) : Option BankId :=
  match b.toNat with
  | 1 => some .A
  | 2 => some .B
  | _ => none

/-- A grant set from its byte: bit 0 CONFIG, bit 1 SESSION, bit 2 ACK. -/
def GrantSet.ofByte (b : Byte) : GrantSet := ⟨b.getLsbD 0, b.getLsbD 1, b.getLsbD 2⟩

/-- The number a grant set is sent as. -/
def GrantSet.toNat (g : GrantSet) : Nat := g.config.toNat + 2 * g.session.toNat + 4 * g.ack.toNat

/-- A source rights entry from its rights byte: PLAN bit 0, ADMIN bit 1, default grant set bits 4 to 2. -/
def SourceRights.ofByte (b : Byte) : SourceRights :=
  ⟨b.getLsbD 0, b.getLsbD 1, ⟨b.getLsbD 2, b.getLsbD 3, b.getLsbD 4⟩⟩

/-- The number a source rights entry is sent as. -/
def SourceRights.toNat (r : SourceRights) : Nat :=
  r.plan.toNat + 2 * r.admin.toNat + 4 * r.dflt.toNat

/-! ## Table records (Table 12-5) -/

/-- The three tables of a bank. -/
inductive Table where
  | slotCfg
  | channelMap
  | roster
  deriving DecidableEq, Repr

/-- A table from its code (R189). -/
def tableOfCode (b : Byte) : Option Table :=
  match b.toNat with
  | 0 => some .slotCfg
  | 1 => some .channelMap
  | 2 => some .roster
  | _ => none

/-- The record size of a table in bytes (Table 12-5). -/
def Table.recordSize : Table → Nat
  | .slotCfg => 27
  | .channelMap => 8
  | .roster => 4

/-- The last position of a table's index space (R1). -/
def Table.lastPosition : Table → Nat
  | .slotCfg => 255
  | .channelMap => 255
  | .roster => 128

/-- The largest compare field number of a table; every number from 0 to it is listed (Table 12-5). -/
def Table.lastField : Table → Nat
  | .slotCfg => 19
  | .channelMap => 4
  | .roster => 3

/-- Bits of a byte as a number: `k` bits from bit `i` on. -/
def bitsAt (b : Byte) (i k : Nat) : Nat := b.toNat / 2 ^ i % 2 ^ k

/-- A slot configuration record as 27 bytes. -/
def SlotCfg.toBytes (c : SlotCfg) : List Byte :=
  BitVec.ofNat 8 (c.enabled.toNat + 2 * c.notify.toNat + 4 * c.emptyAlert.toNat
      + 8 * c.urgentClass.toNat + 16 * c.mode.code)
    :: (beBytes 4 c.article.toNat ++ beBytes 2 c.unitWeight.toNat ++ beBytes 3 c.tare.toNat
      ++ [c.tolerance, c.width.setWidth 8, c.threshold.setWidth 8]
      ++ beBytes 2 c.band.toNat ++ beBytes 2 c.reorder.toNat ++ beBytes 2 c.clear.toNat
      ++ [c.interval, c.putLimit, c.ambiguity, c.motionLimit, c.forecast]
      ++ beBytes 2 c.lead.toNat ++ [0])

/-- The fields of a slot configuration record from its bytes, reserved bits left out. -/
def SlotCfg.ofBytes (r : List Byte) : SlotCfg where
  enabled := (byteAt r 0).getLsbD 0
  notify := (byteAt r 0).getLsbD 1
  emptyAlert := (byteAt r 0).getLsbD 2
  urgentClass := (byteAt r 0).getLsbD 3
  mode := .ofCode (bitsAt (byteAt r 0) 4 2)
  article := BitVec.ofNat 32 (fieldAt r 1 4)
  unitWeight := BitVec.ofNat 16 (fieldAt r 5 2)
  tare := BitVec.ofNat 24 (fieldAt r 7 3)
  tolerance := byteAt r 10
  width := (byteAt r 11).setWidth 6
  threshold := (byteAt r 12).setWidth 6
  band := BitVec.ofNat 16 (fieldAt r 13 2)
  reorder := BitVec.ofNat 16 (fieldAt r 15 2)
  clear := BitVec.ofNat 16 (fieldAt r 17 2)
  interval := byteAt r 19
  putLimit := byteAt r 20
  ambiguity := byteAt r 21
  motionLimit := byteAt r 22
  forecast := byteAt r 23
  lead := BitVec.ofNat 16 (fieldAt r 24 2)

/-- The reserved bits and bytes of a slot configuration record are zero (R190). -/
def slotReservedOk (r : List Byte) : Bool :=
  bitsAt (byteAt r 0) 6 2 = 0 && bitsAt (byteAt r 11) 6 2 = 0 && bitsAt (byteAt r 12) 6 2 = 0
    && byteAt r 26 = 0

/-- Every masked field of a slot configuration record is in a range that Table 1-6 does not refuse. -/
def slotFieldsOk (mask : Word) (r : List Byte) : Bool :=
  let c := SlotCfg.ofBytes r
  (!mask.getLsbD 10 || bitsAt (byteAt r 0) 4 2 ≠ 3)
    && (!mask.getLsbD 2 || c.unitWeight ≠ 0)
    && (!mask.getLsbD 3 || c.tare.toNat ≤ Config.tareMax)
    && (!mask.getLsbD 4 || c.tolerance.toNat ≤ 127)
    && (!mask.getLsbD 5 || (c.width ≠ 0 && c.width ≠ 63))
    && (!mask.getLsbD 7 || c.band ≠ 0)
    && (!mask.getLsbD 16 || c.ambiguity.toNat ≤ 15)

/-- The masked fields take the new record's values, the others keep the old record's (R2). -/
def SlotCfg.merge (mask : Word) (new old : SlotCfg) : SlotCfg where
  enabled := if mask.getLsbD 0 then new.enabled else old.enabled
  article := if mask.getLsbD 1 then new.article else old.article
  unitWeight := if mask.getLsbD 2 then new.unitWeight else old.unitWeight
  tare := if mask.getLsbD 3 then new.tare else old.tare
  tolerance := if mask.getLsbD 4 then new.tolerance else old.tolerance
  width := if mask.getLsbD 5 then new.width else old.width
  threshold := if mask.getLsbD 6 then new.threshold else old.threshold
  band := if mask.getLsbD 7 then new.band else old.band
  reorder := if mask.getLsbD 8 then new.reorder else old.reorder
  clear := if mask.getLsbD 9 then new.clear else old.clear
  mode := if mask.getLsbD 10 then new.mode else old.mode
  interval := if mask.getLsbD 11 then new.interval else old.interval
  notify := if mask.getLsbD 12 then new.notify else old.notify
  emptyAlert := if mask.getLsbD 13 then new.emptyAlert else old.emptyAlert
  urgentClass := if mask.getLsbD 14 then new.urgentClass else old.urgentClass
  putLimit := if mask.getLsbD 15 then new.putLimit else old.putLimit
  ambiguity := if mask.getLsbD 16 then new.ambiguity else old.ambiguity
  motionLimit := if mask.getLsbD 17 then new.motionLimit else old.motionLimit
  forecast := if mask.getLsbD 18 then new.forecast else old.forecast
  lead := if mask.getLsbD 19 then new.lead else old.lead

/-- A record that may stand: not enabled with a U, W or B of 0 (R2). -/
def SlotCfg.mayStand (c : SlotCfg) : Bool :=
  !c.enabled || (c.unitWeight ≠ 0 && c.width ≠ 0 && c.band ≠ 0)

/-- 0 stored as 1. -/
def atLeastOne {w : Nat} (x : BitVec w) : BitVec w := if x = 0 then 1 else x

/-- The threshold as stored: 0 stored as 1, then above a W of at least 1 stored as W (R3). -/
def storedThreshold (width threshold : BitVec 6) : BitVec 6 :=
  if width ≠ 0 ∧ width.toNat < (atLeastOne threshold).toNat then width else atLeastOne threshold

/-- The adjustments of the "stored as" kind, in the order of R3. -/
def SlotCfg.adjust (c : SlotCfg) : SlotCfg :=
  { c with
    threshold := storedThreshold c.width c.threshold
    clear := if c.clear.toNat < c.reorder.toNat then c.reorder else c.clear
    interval := atLeastOne c.interval
    ambiguity := atLeastOne c.ambiguity
    motionLimit := atLeastOne c.motionLimit }

/-- A slot configuration write (R2, R3): the record as stored, or none where it is refused with
BAD_FIELD. -/
def slotWrite (mask : Word) (r : List Byte) (old : SlotCfg) : Option SlotCfg :=
  let m := SlotCfg.merge mask (SlotCfg.ofBytes r) old
  if slotReservedOk r && slotFieldsOk mask r && m.mayStand then some m.adjust else none

/-- The stored value of a slot configuration field by its compare number (R190). -/
def SlotCfg.field (c : SlotCfg) : Nat → Nat
  | 0 => c.enabled.toNat
  | 1 => c.article.toNat
  | 2 => c.unitWeight.toNat
  | 3 => c.tare.toNat
  | 4 => c.tolerance.toNat
  | 5 => c.width.toNat
  | 6 => c.threshold.toNat
  | 7 => c.band.toNat
  | 8 => c.reorder.toNat
  | 9 => c.clear.toNat
  | 10 => c.mode.code
  | 11 => c.interval.toNat
  | 12 => c.notify.toNat
  | 13 => c.emptyAlert.toNat
  | 14 => c.urgentClass.toNat
  | 15 => c.putLimit.toNat
  | 16 => c.ambiguity.toNat
  | 17 => c.motionLimit.toNat
  | 18 => c.forecast.toNat
  | _ => c.lead.toNat

/-- The two routing bytes of a channel map record, with the source in bits 2 to 1 of the second. -/
def routeBytes (route : Option Slot) (source : MemberSource) (invert : Bool) : List Byte :=
  match route with
  | some s => [BitVec.ofNat 8 s.val, BitVec.ofNat 8 (1 + 2 * source.code + 8 * invert.toNat)]
  | none => [0, BitVec.ofNat 8 (2 * source.code + 8 * invert.toNat)]

/-- A channel map record as 8 bytes. -/
def ChanMap.toBytes (m : ChanMap) : List Byte :=
  routeBytes m.route m.source m.invert ++ beBytes 3 m.offset.toNat ++ beBytes 2 m.gain.toNat ++ [0]

/-- A byte as a slot number. -/
def slotOfByte (b : Byte) : Slot := ⟨b.toNat, b.isLt⟩

/-- The fields of a channel map record from its bytes, reserved bits left out. -/
def ChanMap.ofBytes (r : List Byte) : ChanMap where
  route := if (byteAt r 1).getLsbD 0 then some (slotOfByte (byteAt r 0)) else none
  source := .ofCode (bitsAt (byteAt r 1) 1 2)
  invert := (byteAt r 1).getLsbD 3
  offset := BitVec.ofNat 24 (fieldAt r 2 3)
  gain := BitVec.ofNat 16 (fieldAt r 5 2)

/-- The reserved bits and byte of a channel map record are zero (R190). -/
def chanReservedOk (r : List Byte) : Bool := bitsAt (byteAt r 1) 4 4 = 0 && byteAt r 7 = 0

/-- Every masked field of a channel map record is in a range that Tables 1-7 and 12-5 do not refuse. -/
def chanFieldsOk (mask : Word) (r : List Byte) : Bool :=
  (!mask.getLsbD 0 || (byteAt r 1).getLsbD 0 || byteAt r 0 = 0)
    && (!mask.getLsbD 1 || bitsAt (byteAt r 1) 1 2 ≠ 3)
    && (!mask.getLsbD 4 || fieldAt r 5 2 ≠ 0)

/-- The masked fields take the new record's values, the others keep the old record's (R4). -/
def ChanMap.merge (mask : Word) (new old : ChanMap) : ChanMap where
  route := if mask.getLsbD 0 then new.route else old.route
  source := if mask.getLsbD 1 then new.source else old.source
  invert := if mask.getLsbD 2 then new.invert else old.invert
  offset := if mask.getLsbD 3 then new.offset else old.offset
  gain := if mask.getLsbD 4 then new.gain else old.gain

/-- A channel map write up to the member check (R4): the record as it would stand, or none where it is
refused with BAD_FIELD. -/
def chanWrite (mask : Word) (r : List Byte) (old : ChanMap) : Option ChanMap :=
  let m := ChanMap.merge mask (ChanMap.ofBytes r) old
  if chanReservedOk r && chanFieldsOk mask r && (m.route.isNone || m.gain ≠ 0) then some m else none

/-- The stored value of a channel map field by its compare number, in 32 bits (R190). -/
def ChanMap.field (m : ChanMap) : Nat → Nat
  | 0 => match m.route with
    | some s => s.val
    | none => 0x100
  | 1 => m.source.code
  | 2 => m.invert.toNat
  | 3 => (m.offset.signExtend 32).toNat
  | _ => m.gain.toNat

/-- A roster entry as 4 bytes: 0 for SKIP, otherwise the node address. -/
def entryBytes (e : Option Node) : List Byte :=
  [BitVec.ofNat 8 (e.elim 0 nodeAddress), 0, 0, 0]

/-- A roster entry write (R6): the entry as stored, or none where it is refused with BAD_FIELD. -/
def entryWrite (mask : Word) (r : List Byte) (old : Option Node) : Option (Option Node) :=
  if byteAt r 1 = 0 ∧ byteAt r 2 = 0 ∧ byteAt r 3 = 0 then
    if mask.getLsbD 0 then
      if (byteAt r 0).toNat ≤ 32 then some (nodeOfAddress (byteAt r 0).toNat) else none
    else some old
  else none

/-- A roster header as 4 bytes. -/
def RosterHeader.toBytes (h : RosterHeader) : List Byte := [h.length, h.interleave, h.timeout, 0]

/-- A roster header write (R6): the header as stored, or none where it is refused with BAD_FIELD. A
length above 128 is stored as 128. -/
def headerWrite (mask : Word) (r : List Byte) (old : RosterHeader) : Option RosterHeader :=
  if byteAt r 3 = 0 ∧ (mask.getLsbD 2 → (byteAt r 1).toNat ≤ 15) ∧ (mask.getLsbD 3 → byteAt r 2 ≠ 0) then
    some {
      length := if mask.getLsbD 1 then (if 128 < (byteAt r 0).toNat then 128 else byteAt r 0)
        else old.length
      interleave := if mask.getLsbD 2 then byteAt r 1 else old.interleave
      timeout := if mask.getLsbD 3 then byteAt r 2 else old.timeout }
  else none

/-- The stored value of a roster field by its compare number: field 0 of an entry position, fields 1 to
3 of the header. A field the position does not hold has no value (R168). -/
def rosterField (e : Option (Option Node)) (h : RosterHeader) (field : Nat) : Option Nat :=
  match e, field with
  | some e, 0 => some (e.elim 0 nodeAddress)
  | some _, _ => none
  | none, 1 => some h.length.toNat
  | none, 2 => some h.interleave.toNat
  | none, 3 => some h.timeout.toNat
  | none, _ => none

/-! ## Alert entries (Table 12-6) -/

/-- An entry as 16 bytes of an ALERT frame (R191). -/
def AlertEntry.toBytes (e : AlertEntry) : List Byte :=
  let a := e.alert
  BitVec.ofNat 8 a.kind.code
    :: (match a.key with
      | .slot n => BitVec.ofNat 8 n.val
      | .session id => BitVec.ofNat 8 id.val)
    :: BitVec.ofNat 8 (128 * e.urgent.toNat + a.count.isSome.toNat + 2 * a.projection.isSome.toNat
      + 4 * a.article.isSome.toNat)
    :: BitVec.ofNat 8 a.reason.code
    :: (beBytes 2 (a.count.getD 0) ++ beBytes 2 (a.projection.getD 0)
      ++ beBytes 4 ((if a.kind = .lapsed then a.added else a.article).getD 0).toNat
      ++ beBytes 4 a.time.toNat)

/-- The payload of an ALERT frame: the entry count, then the entries in queue order (R191). -/
def alertPayload (es : List AlertEntry) : List Byte :=
  BitVec.ofNat 8 es.length :: es.flatMap AlertEntry.toBytes

/-! ## Request payloads (R189, Table 12-3) -/

/-- The shapes an argument list may be required to have. -/
inductive Shape where
  | fixed (k : Nat)
  | anyList
  | load
  deriving DecidableEq, Repr

/-- Request codes of Table 12-3. -/
abbrev codeLoadRecords : Byte := 0x01
abbrev codeReadRecords : Byte := 0x02
abbrev codeCopyBank : Byte := 0x03
abbrev codeSwitchBank : Byte := 0x04
abbrev codeCancelSwitch : Byte := 0x05
abbrev codeOpenRestock : Byte := 0x10
abbrev codeCloseRestock : Byte := 0x11
abbrev codeAckSlot : Byte := 0x12
abbrev codeSetAlertMask : Byte := 0x13
abbrev codeSetZone : Byte := 0x20
abbrev codeSetSourceRights : Byte := 0x21
abbrev codeLockZones : Byte := 0x22
abbrev codeReadStatus : Byte := 0x30
abbrev codeReadSlot : Byte := 0x31
abbrev codeReadChannel : Byte := 0x32
abbrev codeReadNodes : Byte := 0x33
abbrev codeReadCounters : Byte := 0x34
abbrev codeClearCounters : Byte := 0x35
abbrev codeReadFaults : Byte := 0x36
abbrev codeSoftReset : Byte := 0x3F

/-- The shape of a request's arguments, none for a code that is not in Table 10-3. -/
def requestShape (code : Byte) : Option Shape :=
  match code.toNat with
  | 0x01 => some .load
  | 0x02 => some (.fixed 4)
  | 0x03 => some (.fixed 0)
  | 0x04 => some (.fixed 1)
  | 0x05 => some (.fixed 0)
  | 0x10 => some (.fixed 3)
  | 0x11 => some (.fixed 1)
  | 0x12 => some .anyList
  | 0x13 => some (.fixed 2)
  | 0x20 => some (.fixed 11)
  | 0x21 => some (.fixed 2)
  | 0x22 => some (.fixed 0)
  | 0x30 => some (.fixed 0)
  | 0x31 => some .anyList
  | 0x32 => some .anyList
  | 0x33 => some (.fixed 0)
  | 0x34 => some (.fixed 0)
  | 0x35 => some (.fixed 0)
  | 0x36 => some (.fixed 0)
  | 0x3F => some (.fixed 0)
  | _ => none

/-- The argument bytes of a LOAD_RECORDS before its records. -/
abbrev loadFixed : Nat := 16

/-- A LOAD_RECORDS fits when its length agrees with its table and record count (R189). -/
def loadShapeOk (args : List Byte) : Bool :=
  let count := (byteAt args 15).toNat
  match tableOfCode (byteAt args 0) with
  | some t =>
    if 1 ≤ count ∧ count ≤ 8 then args.length = loadFixed + count * t.recordSize
    else args.length = loadFixed
  | none => args.length = loadFixed

/-- The arguments fit the shape. -/
def Shape.fits (sh : Shape) (args : List Byte) : Bool :=
  match sh with
  | .fixed k => args.length = k
  | .anyList => true
  | .load => loadShapeOk args

/-- What the first three steps of R166 make of a request payload: an answer at once, or a request to
carry out with its source, code and arguments. -/
inductive Screened where
  | bad (code : Byte) (status : Status)
  | good (source : Source) (code : Byte) (args : List Byte)
  deriving DecidableEq, Repr

/-- The header, code and shape checks of R166. A payload too short to hold a code is answered with the
code 0x00 (R189). -/
def screen : List Byte → Screened
  | src :: code :: args =>
    if h : src.toNat < 8 then
      match requestShape code with
      | none => .bad code .badRequest
      | some sh => if sh.fits args then .good ⟨src.toNat, h⟩ code args else .bad code .badRequest
    else .bad code .badField
  | _ => .bad 0x00 .badRequest

/-- The arguments of a LOAD_RECORDS (section 10.3.1, Table 12-3), as bytes and numbers. -/
structure LoadArgs where
  tableCode : Byte
  bank : Byte
  first : Nat
  last : Nat
  start : Nat
  mask : Word
  condition : Nat
  field : Nat
  value : Nat
  count : Nat
  deriving DecidableEq, Repr

/-- The arguments of a LOAD_RECORDS from its argument bytes. -/
def loadArgs (args : List Byte) : LoadArgs where
  tableCode := byteAt args 0
  bank := byteAt args 1
  first := (byteAt args 2).toNat
  last := (byteAt args 3).toNat
  start := (byteAt args 4).toNat
  mask := BitVec.ofNat 32 (fieldAt args 5 4)
  condition := (byteAt args 9).toNat
  field := (byteAt args 10).toNat
  value := fieldAt args 11 4
  count := (byteAt args 15).toNat

/-- The records of a LOAD_RECORDS, `size` bytes each. -/
def splitRecords (size : Nat) : Nat → List Byte → List (List Byte)
  | 0, _ => []
  | k + 1, bs => bs.take size :: splitRecords size k (bs.drop size)

/-! ## Responses (R189) -/

/-- The payload of one response part. -/
def partPayload (code : Byte) (status : Status) (number : Nat) (last : Bool) (results : List Byte) :
    List Byte :=
  code :: status.code :: BitVec.ofNat 8 (number + (if last then 128 else 0)) :: results

/-- The parts of a response from part `number` on; `fuel` bounds their number. -/
def cutParts (code : Byte) (status : Status) : Nat → Nat → List Byte → List (List Byte)
  | 0, number, results => [partPayload code status number true results]
  | fuel + 1, number, results =>
    if results.length ≤ Config.partBytes then [partPayload code status number true results]
    else partPayload code status number false (results.take Config.partBytes)
      :: cutParts code status fuel (number + 1) (results.drop Config.partBytes)

/-- A response cut into parts of up to 237 result bytes. -/
def responseParts (code : Byte) (status : Status) (results : List Byte) : List (List Byte) :=
  cutParts code status results.length 0 results

end Sys2Proof.Machine
end

