-- ==== Sys2Proof/Machine/Ops.lean ====
section
/-!
DEFINITION. The named operations over the state that several blocks share: reading and writing one slot,
channel, node or session record; the bank the part acts by and its members; session coverage; rights;
the two captures. A block has no exception entry: raising an alert or an error counter is the command's
effect on the state.
-/

namespace Sys2Proof.Machine

/-! ## Records -/

/-- The live record of a slot. -/
def State.slot (s : State) (n : Slot) : SlotLive := s.slots[n]

/-- Change the live record of one slot. -/
def State.modSlot (s : State) (n : Slot) (f : SlotLive → SlotLive) : State :=
  { s with slots := s.slots.set n (f (s.slot n)) }

/-- The channel record of a channel. -/
def State.chan (s : State) (c : Chan) : ChanRec := s.chans[c]

/-- Change the channel record of one channel. -/
def State.modChan (s : State) (c : Chan) (f : ChanRec → ChanRec) : State :=
  { s with chans := s.chans.set c (f (s.chan c)) }

/-- The node record of a node. -/
def State.node (s : State) (n : Node) : NodeRec := s.trunk.nodes[n]

/-- Change the trunk controller. -/
def State.modTrunk (s : State) (f : Trunk → Trunk) : State := { s with trunk := f s.trunk }

/-- Change the node record of one node. -/
def State.modNode (s : State) (n : Node) (f : NodeRec → NodeRec) : State :=
  s.modTrunk fun t => { t with nodes := t.nodes.set n (f t.nodes[n]) }

/-- The session record with this id; `none` is FREE. -/
def State.session (s : State) (id : SessionId) : Option Session := s.sessions[id]

/-- Replace one session record. -/
def State.setSession (s : State) (id : SessionId) (r : Option Session) : State :=
  { s with sessions := s.sessions.set id r }

/-- Replace the alert queue. -/
def State.setAlerts (s : State) (q : List AlertEntry) : State := { s with alerts := q }

/-- Change the aisle link interface. -/
def State.modLink (s : State) (f : AisleLink → AisleLink) : State := { s with link := f s.link }

/-- Change the management unit. -/
def State.modMgmt (s : State) (f : Mgmt → Mgmt) : State := { s with mgmt := f s.mgmt }

/-- Change the error counters. -/
def State.modCounters (s : State) (f : Counters → Counters) : State :=
  s.modMgmt fun m => { m with counters := f m.counters }

/-- Change the table store. -/
def State.modStore (s : State) (f : TableStore → TableStore) : State := { s with store := f s.store }

/-- Change the zone table block. -/
def State.modZones (s : State) (f : Zones → Zones) : State := { s with zones := f s.zones }

/-- The seconds count, "now" of an alert or a motion start (R18). -/
def State.now (s : State) : Word := s.time.seconds

/-- The minutes count, "now" of a deadline (R19). -/
def State.minute (s : State) : Word := s.time.minutes

/-- The own station address (R161). -/
def State.ownStation (s : State) : Nat := Config.stationBase + s.strap.toNat

/-- The TRK_DE pin: high while the part transmits on the trunk (R141). -/
def State.trkDe (s : State) : Bool := s.trunk.txn.any (·.sending)

/-! ## Banks and members -/

/-- One of the two banks. -/
def TableStore.bank (t : TableStore) : BankId → Bank
  | .A => t.bankA
  | .B => t.bankB

/-- Replace one of the two banks. -/
def TableStore.setBank (t : TableStore) (id : BankId) (b : Bank) : TableStore :=
  match id with
  | .A => { t with bankA := b }
  | .B => { t with bankB := b }

/-- The bank the part acts by: the serving bank, or an empty bank while it is NONE (R9). -/
def State.acting (s : State) : Bank :=
  match s.store.serving with
  | some id => s.store.bank id
  | none => Bank.reset

/-- The configuration record of a slot in a bank. -/
def Bank.cfg (b : Bank) (n : Slot) : SlotCfg := b.cfgs[n]

/-- The channel map record of a channel in a bank. -/
def Bank.map (b : Bank) (c : Chan) : ChanMap := b.chans[c]

/-- The roster entry at a position of a bank. -/
def Bank.entry (b : Bank) (p : Nat) : Option Node := b.roster.toList.getD p none

/-- The roster length of a bank. -/
def Bank.length (b : Bank) : Nat := b.header.length.toNat

/-- The members of a slot in a bank, with their channel map records, in ascending channel index (R5). -/
def Bank.members (b : Bank) (n : Slot) : List (Chan × ChanMap) :=
  (allChans.zip b.chans.toList).filter fun p => p.2.route = some n

/-- The members of a slot whose source is LIVE. -/
def Bank.liveMembers (b : Bank) (n : Slot) : List (Chan × ChanMap) :=
  (b.members n).filter fun p => p.2.source = .live

/-- The node a channel belongs to (spec 0.6). -/
def nodeOf (c : Chan) : Node := ⟨c.val / 8, by omega⟩

/-- The channel index of channel `k` of a node (spec 0.6). -/
def chanOf (n : Node) (k : Fin 8) : Chan := ⟨n.val * 8 + k.val, by omega⟩

/-- A slot has a LIVE member on a node. -/
def Bank.liveOn (b : Bank) (node : Node) (n : Slot) : Bool :=
  (List.finRange 8).any fun k =>
    (b.map (chanOf node k)).route = some n && (b.map (chanOf node k)).source = .live

/-- The slots that are enabled and have a LIVE member on a node, in ascending order (R31, R38). -/
def Bank.slotsOn (b : Bank) (node : Node) : List Slot :=
  allSlots.filter fun n => (b.cfg n).enabled && b.liveOn node n

/-- The members of a list with later repeats left out, in the order of their first places. -/
def distinct {α : Type} [DecidableEq α] (xs : List α) : List α :=
  xs.foldl (fun acc x => if x ∈ acc then acc else acc ++ [x]) []

/-! ## Sessions -/

/-- A session record's range holds a slot (R109). -/
def Session.covers (r : Session) (n : Slot) : Bool := r.first ≤ n && n ≤ r.last

/-- The id of the session that covers a slot, if one does (R109). -/
def State.coveringId (s : State) (n : Slot) : Option SessionId :=
  allSessions.find? fun id => (s.session id).any (·.covers n)

/-- A slot is covered by an open restock session (R109). -/
def State.covered (s : State) (n : Slot) : Bool := (s.coveringId n).isSome

/-- The slots from the first to the last of a range, in ascending order. -/
def slotRange (first last : Slot) : List Slot := allSlots.filter fun n => first ≤ n && n ≤ last

/-! ## Rights (R180) -/

/-- The three slot rights (section 11.1). -/
inductive SlotRight where
  | config
  | session
  | ack
  deriving DecidableEq, Repr

/-- A grant set holds a slot right. -/
def GrantSet.holds (g : GrantSet) : SlotRight → Bool
  | .config => g.config
  | .session => g.session
  | .ack => g.ack

/-- A zone covers a slot; one whose first slot is above its last covers none (R178). -/
def Zone.covers (z : Zone) (n : Slot) : Bool := z.first ≤ n && n ≤ z.last

/-- Source `src` holds a slot right on a slot: by a covering zone's grant set if any zone covers the
slot, by its default grant set otherwise (R180). -/
def Zones.holds (z : Zones) (src : Source) (r : SlotRight) (n : Slot) : Bool :=
  let covering := z.zones.toList.filter (·.covers n)
  if covering.isEmpty then (z.rights[src]).dflt.holds r
  else covering.any fun zone => (zone.grants[src]).holds r

/-- Source `src` holds PLAN (R180). -/
def Zones.plan (z : Zones) (src : Source) : Bool := (z.rights[src]).plan

/-- Source `src` holds ADMIN (R180). -/
def Zones.admin (z : Zones) (src : Source) : Bool := (z.rights[src]).admin

/-- Record a denial in the protection capture, or count it in its overflow (R185). -/
def State.denial (s : State) (src : Source) (code : Byte) (slot : Option Slot) : State :=
  s.modZones fun z =>
    { z with capture := some (match z.capture with
      | none => ⟨src, code, slot, s.now, false, 0⟩
      | some c => { c with
          overflow := true, overflowCount := satInc Config.overflowMax c.overflowCount }) }

/-- Record a node loss in the trunk capture, or count it in its overflow (R155). -/
def State.nodeLoss (s : State) (node : Node) : State :=
  s.modTrunk fun t =>
    { t with capture := some (match t.capture with
      | none => ⟨node, s.now, false, 0⟩
      | some c => { c with
          overflow := true, overflowCount := satInc Config.overflowMax c.overflowCount }) }

end Sys2Proof.Machine
end

