-- ==== Sys2Proof/Machine/Resets.lean ====
section
/-!
DEFINITION. The three resets (section 0.9, R177): power-on and pin reset, which act alike but for the
cause they record, and the reset point of a SOFT_RESET. The queue of waiting commands is not the part's
and is kept.
-/

namespace Sys2Proof.Machine

/-- POWER_ON (R177). -/
def execPowerOn (strap : BitVec 3) (s : State) : Host.Outcome State Fault Refusal :=
  .next (State.powered .power strap s.pending)

/-- PIN_RESET (R177): RESET is held low and released. -/
def execPinReset (strap : BitVec 3) (s : State) : Host.Outcome State Fault Refusal :=
  .next (State.powered .pin strap s.pending)

/-- The trunk controller at a reset point (R156, R157): its power-on values, and a listening period of
one reply timeout. A frame in reception on the trunk goes on (assumption 4). -/
def Trunk.afterSoftReset (t : Trunk) (timeout : Nat) : Trunk :=
  { Trunk.reset with rx := t.rx, listening := some timeout }

/-- The management unit at a reset point: error counters and suppression mask kept (R177, R132). -/
def Mgmt.afterSoftReset (m : Mgmt) : Mgmt :=
  { Mgmt.reset .soft with counters := m.counters, mask := m.mask }

/-- Every block at its SOFT_RESET values (R176): the time base, the strap sample, the banks and the serving
bank, the zones, the source rights, the lock and the protection capture are kept (R17, R21, R178, R179,
R184, R186). -/
def State.afterSoftReset (s : State) : State where
  time := s.time
  strap := s.strap
  store := { s.store with requested := none }
  chans := Vector.replicate 256 ChanRec.reset
  slots := Vector.replicate 256 SlotLive.reset
  sessions := Vector.replicate 8 none
  alerts := []
  zones := s.zones
  trunk := s.trunk.afterSoftReset s.acting.header.timeout.toNat
  link := AisleLink.reset
  mgmt := s.mgmt.afterSoftReset
  pending := s.pending

/-- The SOFT_RESET response is being sent, so that its last byte is the reset point (R176). -/
def State.atResetPoint (s : State) : Bool := s.link.uplink.any (·.resets)

/-- RESET_POINT (R176): the last byte of the SOFT_RESET response leaves the part. With no such response
being sent the event does not occur. -/
def execResetPoint (s : State) : Host.Outcome State Fault Refusal :=
  .next (if s.atResetPoint then s.afterSoftReset else s)

end Sys2Proof.Machine
end

