-- ==== Sys2Proof/Machine/Assembly.lean ====
section
/-!
DEFINITION. The receive assembler of both lines (R158, R159, R142): one byte at a time, from HUNT through
HEADER, BODY and CHECK back to HUNT.
-/

namespace Sys2Proof.Machine

/-- What a received byte brings about. A completed frame is reported with the CRC it carries, right or
wrong. -/
inductive RxEvent where
  | nothing
  | frame (f : Frame)
  | overLength
  | framingInHunt
  | framingInFrame
  deriving DecidableEq, Repr

/-- The preamble byte. -/
abbrev preambleByte : Byte := 0xD5

/-- A byte in HUNT (R158). -/
def Assembler.hunt (a : Assembler) (d : Byte) : Assembler :=
  if d = preambleByte then { a with preamble := min 4 (a.preamble + 1) }
  else if a.preamble = 4 then { Assembler.reset with state := .header, addr := d }
  else { a with preamble := 0 }

/-- A byte in HEADER: the kind byte, then the length byte (R159). -/
def Assembler.header (a : Assembler) (d : Byte) : Assembler × RxEvent :=
  match a.kind with
  | none => ({ a with kind := some d }, .nothing)
  | some _ =>
    if Config.maxPayload < d.toNat then (Assembler.reset, .overLength)
    else ({ a with length := d.toNat, state := if d = 0 then .check else .body }, .nothing)

/-- A byte in BODY (R159). -/
def Assembler.body (a : Assembler) (d : Byte) : Assembler × RxEvent :=
  let payload := a.payload ++ [d]
  ({ a with payload := payload, state := if payload.length < a.length then .body else .check }, .nothing)

/-- A byte in CHECK: the two CRC bytes, the second of which completes the frame (R159). -/
def Assembler.check (a : Assembler) (d : Byte) : Assembler × RxEvent :=
  match a.crcHigh with
  | none => ({ a with crcHigh := some d }, .nothing)
  | some hi =>
    (Assembler.reset,
      .frame ⟨a.addr, a.kind.getD 0, a.payload, BitVec.ofNat 16 (beNat [hi, d])⟩)

/-- A received byte (R158, R159). A missing stop bit is a framing error: in HUNT it sets the preamble
count to 0, in a frame it abandons the frame (R160). Such a byte may also be a length byte above 240, or the second of
a CRC that differs; R160 does not say which counter then rises, and the model counts a framing error alone (DESIGN
CHOICE, unsafe: assumption 24). -/
def Assembler.receive (a : Assembler) (b : RxByte) : Assembler × RxEvent :=
  match a.state with
  | .hunt => if b.stop then (a.hunt b.data, .nothing) else (Assembler.reset, .framingInHunt)
  | .header => if b.stop then a.header b.data else (Assembler.reset, .framingInFrame)
  | .body => if b.stop then a.body b.data else (Assembler.reset, .framingInFrame)
  | .check => if b.stop then a.check b.data else (Assembler.reset, .framingInFrame)

/-- A frame is in the course of reception. -/
def Assembler.inFrame (a : Assembler) : Bool := a.state ≠ .hunt

end Sys2Proof.Machine
end

