-- ==== Sys2Proof/Machine/AlertQueue.lean ====
section
/-!
DEFINITION. The alert queue (chapter 8): raising, merging, holding back, withdrawal and re-offer. The
bank `b` that the operations take is the one whose article code and urgent class they use: the acting
bank, or the target bank during a switch completion (R16).
-/

namespace Sys2Proof.Machine

/-- The queued entry with a key, if there is one (R123). -/
def State.entry (s : State) (k : AlertKey) : Option AlertEntry :=
  s.alerts.find? fun e => e.alert.key = k

/-- The queue without the entry of a key; the entries behind it close up (R123). -/
def without (k : AlertKey) (q : List AlertEntry) : List AlertEntry :=
  q.filter fun e => e.alert.key ≠ k

/-- An entry joins the tail of its tier (R123, R129). -/
def joinTail (e : AlertEntry) (q : List AlertEntry) : List AlertEntry :=
  if e.urgent then q.takeWhile (·.urgent) ++ e :: q.dropWhile (·.urgent) else q ++ [e]

/-- The urgent class that decides an alert's tier: the keyed slot's (R124). -/
def urgentClassOf (b : Bank) : AlertKey → Bool
  | .slot n => (b.cfg n).urgentClass
  | .session _ => false

/-- The tier of a raised alert (R124). -/
def Alert.urgent (b : Bank) (a : Alert) : Bool := a.kind.urgent (urgentClassOf b a.key)

/-- A new entry for an alert joins the tail of its tier. -/
def State.enqueue (b : Bank) (a : Alert) (s : State) : State :=
  s.setAlerts (joinTail ⟨a, a.urgent b⟩ s.alerts)

/-- An alert keyed by a slot, with the slot's article code and the current seconds count. -/
def slotAlert (b : Bank) (n : Slot) (kind : AlertKind) (reason : AlertReason) (count projection : Option Nat)
    (s : State) : Alert where
  key := .slot n
  kind := kind
  reason := reason
  count := count
  added := none
  projection := projection
  article := some (b.cfg n).article
  time := s.now

/-! ## Withdrawal and re-offer -/

/-- The lowest-numbered held-back slot (R131). -/
def State.lowestHeld (s : State) : Option Slot := allSlots.find? fun n => (s.slot n).held.isSome

/-- The reason of a re-offered alert (R131). -/
def reofferReason (v : SlotLive) (kind : AlertKind) : AlertReason :=
  match kind with
  | .fault => v.fault.elim .noReason FaultReason.alertReason
  | .inspect => v.inspection.elim .noReason InspectReason.alertReason
  | .forecast => .noReason
  | .low => .noReason
  | .empty => .noReason
  | .recovered => .noReason
  | .lapsed => .noReason

/-- The alert a held-back slot is offered again with, from its current details (R131). -/
def reofferAlert (b : Bank) (n : Slot) (kind : AlertKind) (s : State) : Alert :=
  slotAlert b n kind (reofferReason (s.slot n) kind) (s.slot n).count
    (if kind = .forecast then some (s.slot n).projection else none) s

/-- After one departure: the lowest-numbered held-back slot is queued again, if any slot is held back
(R131). -/
def reoffer (b : Bank) (s : State) : State :=
  match s.lowestHeld with
  | none => s
  | some n =>
    match (s.slot n).held with
    | none => s
    | some kind => (s.enqueue b (reofferAlert b n kind s)).modSlot n fun v => { v with held := none }

/-- The queued entry of a key is withdrawn, if there is one, and the re-offer follows (R130). -/
def withdraw (b : Bank) (k : AlertKey) (s : State) : State :=
  match s.entry k with
  | none => s
  | some _ => reoffer b (s.setAlerts (without k s.alerts))

/-- The queued entry of a slot is withdrawn if its kind passes `p`, and the slot's held-back flag is
cleared if its held kind does (Table 8-5). -/
def withdrawSlot (b : Bank) (n : Slot) (p : AlertKind → Bool) (s : State) : State :=
  let s := match s.entry (.slot n) with
    | some e => if p e.alert.kind then withdraw b (.slot n) s else s
    | none => s
  if (s.slot n).held.any p then s.modSlot n fun v => { v with held := none } else s

/-! ## Raising -/

/-- A raised alert meets the queued entry of its key (Table 8-3, R126). -/
def merge (b : Bank) (a : Alert) (e : AlertEntry) (s : State) : State :=
  if a.kind = .recovered ∧ e.alert.kind.recoverable then withdraw b a.key s
  else if e.alert.kind.code ≤ a.kind.code then
    let urgent := e.urgent || a.urgent b
    if urgent = e.urgent then
      s.setAlerts (s.alerts.map fun x => if x.alert.key = a.key then ⟨a, urgent⟩ else x)
    else s.setAlerts (joinTail ⟨a, urgent⟩ (without a.key s.alerts))
  else s

/-- The held kind after an alert is raised for a slot held back with kind `h` (Table 8-4, R128). -/
def heldAfter (h k : AlertKind) : Option AlertKind :=
  if k = .recovered ∧ h.recoverable then none else if h.code < k.code then some k else some h

/-- A raised alert with no queued entry and no held-back slot is placed (R129). -/
def place (b : Bank) (a : Alert) (s : State) : State :=
  if s.alerts.length < Config.alertCapacity then s.enqueue b a
  else
    let s := s.modCounters fun c =>
      { c with queueOverflow := satInc Config.counterMax c.queueOverflow }
    match a.key with
    | .slot n => s.modSlot n fun v => { v with held := some a.kind }
    | .session _ => s

/-- A raised alert with no queued entry: against a held-back slot (R128), or placed (R129). -/
def raiseNew (b : Bank) (a : Alert) (s : State) : State :=
  match a.key with
  | .slot n =>
    match (s.slot n).held with
    | some h => s.modSlot n fun v => { v with held := heldAfter h a.kind }
    | none => place b a s
  | .session _ => place b a s

/-- A raised alert, through the four decisions of section 8.3. -/
def raiseAlert (b : Bank) (a : Alert) (s : State) : State :=
  if maskHas s.mgmt.mask a.kind then s
  else
    match s.entry a.key with
    | some e => merge b a e s
    | none => raiseNew b a s

/-- A stock alert: reason NONE and the confirmed count (R81). -/
def raiseStock (b : Bank) (n : Slot) (kind : AlertKind) (s : State) : State :=
  raiseAlert b (slotAlert b n kind .noReason (s.slot n).count none s) s

/-- An INSPECT alert with its count; the inspection flag and reason are set (R70). -/
def raiseInspect (b : Bank) (n : Slot) (reason : InspectReason) (count : Option Nat) (s : State) : State :=
  raiseAlert b (slotAlert b n .inspect reason.alertReason count none s)
    (s.modSlot n fun v => { v with inspection := some reason })

/-! ## Newly suppressed kinds (R132) -/

/-- Clear the held-back flag of every slot whose held kind passes `p`. -/
def clearHeld (p : AlertKind → Bool) (s : State) : State :=
  { s with slots := s.slots.map fun v => if v.held.any p then { v with held := none } else v }

/-- Withdraw every queued entry of a kind that passes `p`, in queue order, each with its re-offer. -/
def withdrawKinds (b : Bank) (p : AlertKind → Bool) (s : State) : State :=
  ((s.alerts.filter fun e => p e.alert.kind).map (·.alert.key)).foldl (fun s k => withdraw b k s) s

/-! ## Departure into an ALERT frame (R134) -/

/-- Several re-offers, one for each departed entry. -/
def reoffers (b : Bank) : Nat → State → State
  | 0, s => s
  | k + 1, s => reoffers b k (reoffer b s)

end Sys2Proof.Machine
end

