-- ==== Sys2Proof/Machine/SlotEngine.lean ====
section
/-!
DEFINITION. The slot engine (chapters 2 to 6): faults, the settle window, motion, counting, stock states
and the forecast, from a slot sample to the alerts it raises. `b` is the bank whose settings apply.
-/

namespace Sys2Proof.Machine

/-! ## Motion list (R149, R151) -/

/-- Offer one node to the motion list (R149). -/
def offerNode (node : Node) (s : State) : State :=
  if node ∈ s.trunk.motionList then s
  else if s.trunk.motionList.length < Config.motionCapacity then
    s.modTrunk fun t => { t with motionList := t.motionList ++ [node] }
  else s.modCounters fun c =>
    { c with motionOverflow := satInc Config.counterMax c.motionOverflow }

/-- The nodes that carry LIVE members of a slot, in the order of their members' channel indexes. -/
def Bank.liveNodes (b : Bank) (n : Slot) : List Node :=
  distinct ((b.liveMembers n).map fun p => nodeOf p.1)

/-- The nodes that carry members of a slot, in the order of their members' channel indexes. -/
def Bank.memberNodes (b : Bank) (n : Slot) : List Node :=
  distinct ((b.members n).map fun p => nodeOf p.1)

/-- The offers of an unsettled close (R47). -/
def offerNodes (b : Bank) (n : Slot) (s : State) : State :=
  (b.liveNodes n).foldl (fun s node => offerNode node s) s

/-- A node is needed while an enabled slot in motion has a LIVE member on it (R151). -/
def needed (b : Bank) (node : Node) (s : State) : Bool :=
  allSlots.any fun m => (s.slot m).motion.isSome && (b.cfg m).enabled && b.liveOn node m

/-- The motion list pointer after the node at position `i` has left a list of `len` nodes (R150). -/
def pointerAfterLeave (ptr i len : Nat) : Nat :=
  let ptr := if i < ptr then ptr - 1 else ptr
  if len ≤ ptr + 1 then 0 else ptr

/-- A node leaves the motion list (R150). -/
def Trunk.dropNode (t : Trunk) (node : Node) : Trunk :=
  { t with
    motionList := t.motionList.erase node
    motionPtr := pointerAfterLeave t.motionPtr (t.motionList.idxOf node) t.motionList.length }

/-- The slot engine tells the TC that a slot has left motion: each node that carries a member of it and is
on the list and no longer needed leaves it (R151). -/
def leaveMotion (b : Bank) (n : Slot) (s : State) : State :=
  (b.memberNodes n).foldl
    (fun s node =>
      if node ∈ s.trunk.motionList ∧ needed b node s = false then s.modTrunk (·.dropNode node) else s) s

/-- Clear the in-motion and motion-reported flags, and tell the TC if the slot was in motion (R35, R49). -/
def clearMotion (b : Bank) (n : Slot) (s : State) : State :=
  let was := (s.slot n).motion.isSome
  let s := s.modSlot n fun v => { v with motion := none, motionReported := false }
  if was then leaveMotion b n s else s

/-! ## Slot faults (section 2.4) -/

/-- The fault condition over the LIVE members (R34). -/
def faultCondition (b : Bank) (n : Slot) (s : State) : Bool :=
  (b.liveMembers n).any fun p =>
    (s.node (nodeOf p.1)).state = .silent || (s.chan p.1).badStreak = 3

/-- The clear condition over the LIVE members (R34). -/
def clearCondition (b : Bank) (n : Slot) (s : State) : Bool :=
  (b.liveMembers n).all fun p =>
    (s.node (nodeOf p.1)).state = .alive && (s.chan p.1).badStreak = 0

/-- The reason of a fault that starts (R34). -/
def faultReasonOf (b : Bank) (n : Slot) (s : State) : FaultReason :=
  if (b.liveMembers n).any fun p => (s.node (nodeOf p.1)).state = .silent then .nodeSilent
  else .badSamples

/-- The onset of a fault (R35). -/
def faultOnset (b : Bank) (n : Slot) (s : State) : State :=
  let reason := faultReasonOf b n s
  let s := s.modSlot n fun v => { v with fault := some reason, fresh := 0, window := none }
  let s := clearMotion b n s
  raiseAlert b (slotAlert b n .fault reason.alertReason (s.slot n).count none s) s

/-- The clearing of a fault (R37). -/
def faultClear (n : Slot) (s : State) : State :=
  s.modSlot n fun v => { v with fault := none, fresh := 0 }

/-- The fault test of a slot (R34). -/
def faultTest (b : Bank) (n : Slot) (s : State) : State :=
  match (s.slot n).fault with
  | none => if faultCondition b n s then faultOnset b n s else s
  | some _ => if clearCondition b n s then faultClear n s else s

/-! ## Forecast (chapter 6) -/

/-- The forecast part at its reset values (R106). -/
def SlotLive.resetForecast (v : SlotLive) : SlotLive :=
  { v with
    removedSum := 0
    elapsed := none
    rate := none
    projection := Config.noProjection
    armed := true }

/-- The conditions of step 2 of R101. -/
def mayForecast (n : Slot) (s : State) : Bool :=
  let v := s.slot n
  v.armed && v.stock = .stocked && v.rate.any (0 < ·) && !s.covered n && v.fault.isNone

/-- The arming decision, and the FORECAST it may raise (R101, R102). -/
def arming (b : Bank) (n : Slot) (s : State) : State :=
  let lead := (b.cfg n).lead.toNat
  if lead < (s.slot n).projection then s.modSlot n fun v => { v with armed := true }
  else if mayForecast n s then
    let v := s.slot n
    (raiseAlert b (slotAlert b n .forecast .noReason v.count (some v.projection) s) s).modSlot n
      fun v => { v with armed := false }
  else s

/-- The projection is recomputed (R100), and the arming decision follows (R101). -/
def recompute (b : Bank) (n : Slot) (s : State) : State :=
  arming b n (s.modSlot n fun v =>
    { v with projection := projectionOf v.count (b.cfg n).forecast.toNat v.rate })

/-- The close of a forecast window (R99). -/
def windowClose (b : Bank) (n : Slot) (s : State) : State :=
  recompute b n (s.modSlot n fun v =>
    { v with rate := some v.removedSum, removedSum := 0, elapsed := some 0 })

/-- The forecast window step of a minute tick (R98). -/
def forecastStep (b : Bank) (n : Slot) (s : State) : State :=
  match (s.slot n).elapsed with
  | none => s
  | some e =>
    let s := s.modSlot n fun v => { v with elapsed := some (e + 1) }
    if (b.cfg n).forecast.toNat ≤ e + 1 then windowClose b n s else s

/-! ## Stock states (chapter 5) -/

/-- The acknowledged flag after a transition (Table 5-7). -/
def ackedAfter (old new : StockState) (acked : Bool) : Bool :=
  if old = .empty ∧ new = .low then acked else false

/-- The repeat deadline after a transition (Table 5-7). -/
def deadlineAfter (old new : StockState) (fresh : Word) (deadline : Option Word) : Option Word :=
  match new with
  | .low => if old = .empty then deadline else some fresh
  | .empty => some fresh
  | .stocked => none
  | .unknown => none

/-- The live record after a transition, its re-arm included (R82, R103). -/
def SlotLive.transit (v : SlotLive) (new : StockState) (fresh : Word) : SlotLive :=
  { v with
    stock := new
    acked := ackedAfter v.stock new v.acked
    deadline := deadlineAfter v.stock new fresh v.deadline
    armed := v.armed || (v.stock.short && new = .stocked) }

/-- A repeat deadline set now (R82). -/
def freshDeadline (b : Bank) (n : Slot) (s : State) : Word :=
  s.minute + BitVec.ofNat 32 (b.cfg n).interval.toNat

/-- A transition: its effects on the record, then its alert unless a session withholds it
(R77, R80 to R83). -/
def transition (b : Bank) (n : Slot) (new : StockState) (s : State) : State :=
  let old := (s.slot n).stock
  let s := s.modSlot n fun v => v.transit new (freshDeadline b n s)
  match transitionAlert (b.cfg n) old new with
  | some kind => if s.covered n then s else raiseStock b n kind s
  | none => s

/-- The stock evaluation of a slot's confirmed count (R77). -/
def stockEvaluate (b : Bank) (n : Slot) (s : State) : State :=
  match (s.slot n).count with
  | none => s
  | some c =>
    let new := classify (b.cfg n).reorder.toNat (b.cfg n).clear.toNat c (s.slot n).stock
    if new = (s.slot n).stock then s else transition b n new s

/-- The repeat test (R85). A CLOSE_RESTOCK taken just before a tick sets the deadline to its own minute plus the
interval (R118). With an interval of 1 the tick finds that deadline reached by R20 and R85, while R88 says that it finds
it not reached; the model follows R85 and repeats (DESIGN CHOICE, unsafe: assumption 23). -/
def repeatDue (b : Bank) (n : Slot) (s : State) : Bool :=
  let v := s.slot n
  (b.cfg n).enabled && (b.cfg n).mode = .repeating && v.stock.short && !v.acked && !s.covered n
    && v.fault.isNone && v.deadline.any (reached s.minute)

/-- A repeat: the standing alert again, and the deadline past the present minute (R86). -/
def doRepeat (b : Bank) (n : Slot) (s : State) : State :=
  let interval := (b.cfg n).interval.toNat
  let s := match standing (b.cfg n).mode (b.cfg n).emptyAlert (s.slot n).stock with
    | some kind => raiseStock b n kind s
    | none => s
  s.modSlot n fun v => { v with deadline := v.deadline.map fun d => advanceDeadline s.minute d interval }

/-- The repeat test of a slot, and its repeat if the test passes (R85, R86). -/
def repeatStep (b : Bank) (n : Slot) (s : State) : State :=
  if repeatDue b n s then doRepeat b n s else s

/-- What the slot engine does for one slot at a minute tick: the repeat test, then the forecast window
step (R85, R98). -/
def slotTick (b : Bank) (n : Slot) (s : State) : State := forecastStep b n (repeatStep b n s)

/-- What the slot engine does at a minute tick, in ascending slot order (R85). -/
def slotsPass (b : Bank) (s : State) : State := allSlots.foldl (fun s n => slotTick b n s) s

/-! ## Counting (chapter 4) -/

/-- The raw count of a settled weight: the net weight over U, rounded half up (R57). -/
def rawCount (cfg : SlotCfg) (settled : Int) : Int :=
  divHalfUp (settled - cfg.tare.toNat) cfg.unitWeight.toNat

/-- The count of a settled weight: the raw count clamped to 0 to 65,535 (R57). -/
def countOf (cfg : SlotCfg) (settled : Int) : Nat := (clamp 0 Config.countMax (rawCount cfg settled)).toNat

/-- The residue of the clamped count (R58). -/
def residueOf (cfg : SlotCfg) (settled : Int) : Int :=
  settled - cfg.tare.toNat - (countOf cfg settled : Int) * cfg.unitWeight.toNat

/-- The tolerance test (R58). -/
def accepted (cfg : SlotCfg) (settled : Int) : Bool :=
  256 * (residueOf cfg settled).natAbs ≤ cfg.tolerance.toNat * cfg.unitWeight.toNat

/-- The hand-off after an accepted count: stock evaluation, then projection (R67). -/
def handOff (b : Bank) (n : Slot) (s : State) : State := recompute b n (stockEvaluate b n s)

/-- An ambiguous count (R60). -/
def ambiguousCount (b : Bank) (n : Slot) (s : State) : State :=
  let v := s.slot n
  let limit := (b.cfg n).ambiguity.toNat
  if v.streak < limit then
    let s := s.modSlot n fun v => { v with streak := v.streak + 1 }
    if v.streak + 1 = limit then raiseInspect b n .ambiguous v.count s else s
  else s

/-- Start the forecast window at a first count, if L is not 0 (R96). -/
def SlotLive.startForecast (v : SlotLive) (window : Nat) : SlotLive :=
  if window = 0 then v else { v with elapsed := some 0 }

/-- The first confirmed count of a slot in UNKNOWN (R62). -/
def firstCount (b : Bank) (n : Slot) (c : Nat) (s : State) : State :=
  s.modSlot n fun v => { v with count := some c }.startForecast (b.cfg n).forecast.toNat

/-- A take of `k` units (R63, R97). -/
def take (b : Bank) (n : Slot) (k : Nat) (s : State) : State :=
  s.modSlot n fun v =>
    { v with
      removed := addUnits v.removed k
      removedSum := if (b.cfg n).forecast = 0 then v.removedSum
        else min Config.removedMax (v.removedSum + k) }

/-- A replenishment of `k` units under the session with this id (R64). -/
def replenish (n : Slot) (id : SessionId) (k : Nat) (s : State) : State :=
  (s.setSession id ((s.session id).map fun r => { r with added := addUnits r.added k })).modSlot n
    fun v => { v with replenished := addUnits v.replenished k }

/-- A put-back of `k` units that makes the count `c` (R65, R97). -/
def doPutBack (b : Bank) (n : Slot) (k c : Nat) (s : State) : State :=
  let s := s.modSlot n fun v =>
    { v with
      putBack := addUnits v.putBack k
      removedSum := if (b.cfg n).forecast = 0 then v.removedSum else v.removedSum - k }
  if (b.cfg n).putLimit.toNat < k then raiseInspect b n .addition (some c) s else s

/-- The change from the confirmed count `old` to `c`, classified by Table 4-3 (R61). -/
def classifyChange (b : Bank) (n : Slot) (old c : Nat) (s : State) : State :=
  if c < old then take b n (old - c) s
  else if old < c then
    match s.coveringId n with
    | some id => replenish n id (c - old) s
    | none => doPutBack b n (c - old) c s
  else s

/-- The confirmed count an accepted count is compared with: none while the slot is UNKNOWN (R61). -/
def State.confirmed (s : State) (n : Slot) : Option Nat :=
  if (s.slot n).stock = .unknown then none else (s.slot n).count

/-- An accepted count (R61): a first count, or a classified change, then the hand-off. -/
def acceptedCount (b : Bank) (n : Slot) (c : Nat) (s : State) : State :=
  let s := s.modSlot n fun v => { v with streak := 0 }
  match s.confirmed n with
  | none => handOff b n (firstCount b n c s)
  | some old =>
    handOff b n ((classifyChange b n old c s).modSlot n fun v => { v with count := some c })

/-- Counting of a settled weight (R57 to R61). -/
def counting (b : Bank) (n : Slot) (settled : Int) (s : State) : State :=
  if accepted (b.cfg n) settled then acceptedCount b n (countOf (b.cfg n) settled) s
  else ambiguousCount b n s

/-! ## Settle windows (chapter 3) -/

/-- A sample taken into a window: it opens an empty one, or is counted and tested against the band
(R41, R42). -/
def Window.take (w : Option Window) (band : Nat) (x : Int) : Window :=
  match w with
  | none => ⟨x, x, 1, 1⟩
  | some w =>
    if (x - w.anchor).natAbs ≤ band then ⟨w.anchor, w.sum + x, w.agree + 1, w.count + 1⟩
    else ⟨w.anchor, w.sum, w.agree, w.count + 1⟩

/-- What the close tests find. -/
inductive Verdict where
  | stays
  | settled
  | unsettled
  deriving DecidableEq, Repr

/-- The close tests after each sample: early close, then full window (R43). -/
def Window.verdict (w : Window) (width threshold : Nat) : Verdict :=
  if (width : Int) - w.count < (threshold : Int) - w.agree then .unsettled
  else if w.count = width then (if threshold ≤ w.agree then .settled else .unsettled)
  else .stays

/-- The settled weight: the sum over the agree count, rounded half up (R44). -/
def Window.settledWeight (w : Window) : Int := divHalfUp w.sum w.agree

/-- A settled close (R45, R49): motion ends, the weight is stored and handed to counting. -/
def settledClose (b : Bank) (n : Slot) (g : Int) (s : State) : State :=
  let s := clearMotion b n (s.modSlot n fun v => { v with window := none })
  counting b n g (s.modSlot n fun v => { v with lastSettled := some g })

/-- The motion limit test (R48): the elapsed time is compared as an unsigned difference (R20). -/
def motionLimitTest (b : Bank) (n : Slot) (s : State) : State :=
  let v := s.slot n
  match v.motion with
  | none => s
  | some start =>
    if (b.cfg n).motionLimit.toNat ≤ (s.now - start).toNat ∧ v.motionReported = false then
      raiseInspect b n .motion v.count (s.modSlot n fun v => { v with motionReported := true })
    else s

/-- An unsettled close (R45 to R48). -/
def unsettledClose (b : Bank) (n : Slot) (s : State) : State :=
  let s := s.modSlot n fun v => { v with window := none, motion := some (v.motion.getD s.now) }
  motionLimitTest b n (offerNodes b n s)

/-- A slot sample is taken by the slot's settle window, with everything a close starts (R41 to R45). -/
def takeSample (b : Bank) (n : Slot) (x : Int) (s : State) : State :=
  let cfg := b.cfg n
  let w := Window.take (s.slot n).window cfg.band.toNat x
  match w.verdict cfg.width.toNat cfg.threshold.toNat with
  | .stays => s.modSlot n fun v => { v with window := some w }
  | .settled => settledClose b n w.settledWeight s
  | .unsettled => unsettledClose b n s

/-! ## Slot samples (section 2.3) -/

/-- The contribution of a member to the slot sample (R32). A LIVE member's last good grams are present
whenever the fresh mask is complete. -/
def contribution (s : State) (p : Chan × ChanMap) : Int :=
  match p.2.source with
  | .live => (s.chan p.1).lastGood.getD 0
  | .hold => (s.chan p.1).lastGood.getD 0
  | .zero => 0

/-- The slot sample: the sum of the contributions of all members (R32). -/
def slotSample (b : Bank) (n : Slot) (s : State) : Int := ((b.members n).map (contribution s)).sum

/-- The fresh mask with the positions of the converted LIVE members set, member `i` at position `i`
(R30, R31). -/
def setFresh (members : List (Chan × ChanMap)) (converted : List Chan) (mask : BitVec 4) : BitVec 4 :=
  (members.zipIdx).foldl
    (fun m p => if p.1.2.source = .live ∧ p.1.1 ∈ converted then m ||| (1#4 <<< p.2) else m) mask

/-- The mask is complete: the position of every LIVE member is set (R30). -/
def freshComplete (members : List (Chan × ChanMap)) (mask : BitVec 4) : Bool :=
  members.zipIdx.all fun p => p.1.2.source ≠ .live || mask.getLsbD p.2

/-- What the slot engine does for one slot with an accepted reply (R31): the fault test, then the fresh
mask, then the slot sample. -/
def slotReply (b : Bank) (converted : List Chan) (n : Slot) (s : State) : State :=
  let was := (s.slot n).fault.isSome
  let s := faultTest b n s
  if was || (s.slot n).fault.isSome then s
  else
    let mask := setFresh (b.members n) converted (s.slot n).fresh
    if freshComplete (b.members n) mask then
      takeSample b n (slotSample b n s) (s.modSlot n fun v => { v with fresh := 0 })
    else s.modSlot n fun v => { v with fresh := mask }

/-! ## Channel conversion (sections 2.1 and 2.2) -/

/-- The channel is converted or rejected, not only recorded (R24). -/
def converts (m : ChanMap) (r : ChanRec) : Bool := m.route.isSome && m.source = .live && !r.rezero

/-- The channel record after a reading (R23 to R27). -/
def ChanRec.read (r : ChanRec) (m : ChanMap) (x : Reading) : ChanRec :=
  let r := { r with lastRaw := some x }
  if converts m r then
    if x.status = .ok then { r with lastGood := some (toGrams m x.count), badStreak := 0 }
    else { r with badStreak := min 3 (r.badStreak + 1) }
  else r

/-- One reading of a reply, with the list of converted channels so far (R23). -/
def takeReading (b : Bank) (acc : State × List Chan) (p : Chan × Reading) : State × List Chan :=
  let conv := converts (b.map p.1) (acc.1.chan p.1) && p.2.status = .ok
  (acc.1.modChan p.1 fun r => r.read (b.map p.1) p.2, if conv then acc.2 ++ [p.1] else acc.2)

/-- The channel indexes of a node, in channel order. -/
def nodeChans (node : Node) : List Chan := (List.finRange 8).map (chanOf node)

/-- The handling of an accepted sample reply (R23, R31): the eight readings, then the slots of the node
in ascending order. -/
def handleSample (node : Node) (payload : List Byte) (s : State) : State :=
  let b := s.acting
  let (s, converted) := ((nodeChans node).zip (parseReadings payload)).foldl (takeReading b) (s, [])
  (b.slotsOn node).foldl (fun s n => slotReply b converted n s) s

/-- The fault tests that follow a node's change to SILENT (R38). -/
def nodeSilent (b : Bank) (node : Node) (s : State) : State :=
  (b.slotsOn node).foldl (fun s n => faultTest b n s) s

/-! ## Reset to UNKNOWN -/

/-- The stock, counting, forecast and settle parts reset to UNKNOWN. The lifetime totals, the faulted
flag and its reason, the deficit-at-open flag, the fresh mask and the held-back flag are not touched
(R14, R51, R72, R93, R106, R153). -/
def SlotLive.toUnknown (v : SlotLive) : SlotLive :=
  { v with
    window := none
    motion := none
    motionReported := false
    lastSettled := none
    count := none
    streak := 0
    inspection := none
    stock := .unknown
    acked := false
    deadline := none }.resetForecast

/-- The reset of a slot after an OK reply to a forwarded ZERO (R153, R133). -/
def zeroReset (b : Bank) (n : Slot) (s : State) : State :=
  let was := (s.slot n).motion.isSome
  let s := s.modSlot n SlotLive.toUnknown
  let s := if was then leaveMotion b n s else s
  withdrawSlot b n (fun _ => true) s

end Sys2Proof.Machine
end

