-- ==== Sys2Proof/Machine/TableStore.lean ====
section
/-!
DEFINITION. The table store (chapter 1): writing one record of a bank that is not serving, and the
completion of a bank switch.
-/

namespace Sys2Proof.Machine

/-! ## Record writes (R2 to R6) -/

/-- How many channels of a bank route to a slot. -/
def Bank.memberCount (b : Bank) (n : Slot) : Nat := (b.members n).length

/-- The member check (R5): the channel's routing was already this slot, or fewer than four channels of
the bank route to it. -/
def memberCheck (b : Bank) (c : Chan) (route : Option Slot) : Bool :=
  match route with
  | none => true
  | some n => (b.map c).route = some n || b.memberCount n < Config.memberLimit

/-- Write one record of a table at a position of a bank: the bank with the record as stored, or the code
the record is refused with (R2 to R6). A position outside the table is refused with BAD_INDEX. -/
def Bank.write (b : Bank) (t : Table) (pos : Nat) (mask : Word) (r : List Byte) : Except Status Bank :=
  match t with
  | .slotCfg =>
    if h : pos < 256 then
      match slotWrite mask r b.cfgs[pos] with
      | some c => .ok { b with cfgs := b.cfgs.set pos c }
      | none => .error .badField
    else .error .badIndex
  | .channelMap =>
    if h : pos < 256 then
      match chanWrite mask r b.chans[pos] with
      | some m =>
        if memberCheck b ⟨pos, h⟩ m.route then .ok { b with chans := b.chans.set pos m }
        else .error .tooMany
      | none => .error .badField
    else .error .badIndex
  | .roster =>
    if h : pos < 128 then
      match entryWrite mask r b.roster[pos] with
      | some e => .ok { b with roster := b.roster.set pos e }
      | none => .error .badField
    else if pos = 128 then
      match headerWrite mask r b.header with
      | some hd => .ok { b with header := hd }
      | none => .error .badField
    else .error .badIndex

/-- The stored record at a position of a table, as bytes (R170, Table 12-5). -/
def Bank.read (b : Bank) (t : Table) (pos : Nat) : List Byte :=
  match t with
  | .slotCfg => if h : pos < 256 then (b.cfgs[pos]).toBytes else []
  | .channelMap => if h : pos < 256 then (b.chans[pos]).toBytes else []
  | .roster =>
    if h : pos < 128 then entryBytes b.roster[pos]
    else if pos = 128 then b.header.toBytes else []

/-- The stored value of a compare field at a position of a table; none where the position does not hold
the field (R168). -/
def Bank.field (b : Bank) (t : Table) (pos field : Nat) : Option Nat :=
  match t with
  | .slotCfg => if h : pos < 256 then some ((b.cfgs[pos]).field field) else none
  | .channelMap => if h : pos < 256 then some ((b.chans[pos]).field field) else none
  | .roster => rosterField (if h : pos < 128 then some b.roster[pos] else none) b.header field

/-! ## Completion of a switch (R13 to R16) -/

/-- The measurement of a slot differs between two banks (R13). The members are compared with their
channel map records, whose routing is the same on both sides. -/
def measurementDiffers (old new : Bank) (n : Slot) : Bool :=
  (old.cfg n).enabled ≠ (new.cfg n).enabled || (old.cfg n).unitWeight ≠ (new.cfg n).unitWeight
    || (old.cfg n).tare ≠ (new.cfg n).tare || old.members n ≠ new.members n

/-- The fault condition of a changed slot, decided in the new bank (R14). -/
def changedFault (new : Bank) (n : Slot) (s : State) : State :=
  if (new.cfg n).enabled && !(new.liveMembers n).isEmpty then faultTest new n s
  else s.modSlot n fun v => { v with fault := none }

/-- A changed slot (R14): its record is reset, its alerts but FAULT are withdrawn, and its fault is
decided afresh. -/
def changedSlot (new : Bank) (n : Slot) (s : State) : State :=
  let s := s.modSlot n fun v => { v.toUnknown with fresh := 0 }
  changedFault new n (withdrawSlot new n (fun k => k ≠ .fault) s)

/-- The settle window settings of a slot differ between two banks (R15). -/
def windowSettingsDiffer (old new : Bank) (n : Slot) : Bool :=
  (old.cfg n).width ≠ (new.cfg n).width || (old.cfg n).threshold ≠ (new.cfg n).threshold
    || (old.cfg n).band ≠ (new.cfg n).band

/-- The forecast window restarted, when L differs (R15, R105). -/
def restartForecast (new : Bank) (n : Slot) (s : State) : State :=
  recompute new n (s.modSlot n fun v =>
    { v with
      removedSum := 0
      rate := none
      elapsed := if (new.cfg n).forecast ≠ 0 && v.count.isSome then some 0 else none })

/-- A kept slot (R15): its window, ambiguity streak, stock state and forecast are adjusted. -/
def keptSlot (old new : Bank) (n : Slot) (s : State) : State :=
  let s := s.modSlot n fun v =>
    { v with
      window := if windowSettingsDiffer old new n then none else v.window
      streak := min v.streak (new.cfg n).ambiguity.toNat }
  let s := if (new.cfg n).enabled && (s.slot n).stock ≠ .unknown then stockEvaluate new n s else s
  if (old.cfg n).forecast ≠ (new.cfg n).forecast then restartForecast new n s else s

/-- What the completion does for one slot (R13 to R15). -/
def completeSlot (fromNone : Bool) (old new : Bank) (n : Slot) (s : State) : State :=
  if fromNone || measurementDiffers old new n then changedSlot new n s else keptSlot old new n s

/-- The completion of a switch to a bank (R13 to R16): the slots in ascending order, then the roster
pointer, the motion list, the serving bank and the switch state; the roster-empty mark is cleared
(R148). -/
def completeSwitch (target : BankId) (s : State) : State :=
  let old := s.acting
  let new := s.store.bank target
  let fromNone := s.store.serving.isNone
  let s := allSlots.foldl (fun s n => completeSlot fromNone old new n s) s
  (s.modTrunk fun t =>
    { t with rosterPtr := 0, motionList := [], motionPtr := 0, rosterEmpty := false }).modStore
      fun st => { st with serving := some target, requested := none }

end Sys2Proof.Machine
end

