-- ==== Sys2Proof/Machine/Trunk.lean ====
section
/-!
DEFINITION. The trunk controller (chapter 9): the arbiter, poll and forward transactions, the ZERO snoop
and what each received frame does, and the meanings of the trunk rows.
-/

namespace Sys2Proof.Machine

/-! ## Starting transactions -/

/-- The reply timeout of a transaction that starts now (R142). -/
def State.replyTimeout (s : State) : Nat := s.acting.header.timeout.toNat

/-- A motion poll moves the motion list pointer to the next position in use (R150). -/
def nextPointer (ptr len : Nat) : Nat := if ptr + 1 < len then ptr + 1 else 0

/-- A poll transaction to a node starts (R141, R146, R147). -/
def startPoll (node : Node) (motion : Bool) (s : State) : State :=
  let tag := s.trunk.pollTag
  (s.modNode node fun r => { r with polls := r.polls + 1 }).modTrunk fun t =>
    { t with
      txn := some ⟨.poll node tag motion, pollFrame node tag, true, s.replyTimeout⟩
      pollTag := tag + 1
      lastKind := .poll
      interleave := if motion then 0 else t.interleave
      motionPtr := if motion then nextPointer t.motionPtr t.motionList.length else t.motionPtr }

/-- A frame is a ZERO to this node: its channel mask (R152, R188). -/
def zeroMask (f : Frame) : Option Byte :=
  match f.node, f.payload with
  | some _, cmd :: mask :: _ => if cmd = Config.zeroCommand then some mask else none
  | _, _ => none

/-- The rezero set of a ZERO to a node: the channels named in the mask that are routed to a slot in the
serving bank, and the distinct slots they are routed to, in ascending order (R152). -/
def rezeroSet (b : Bank) (node : Node) (mask : Byte) : RezeroSet :=
  let chans := ((List.finRange 8).filter fun k =>
    mask.getLsbD k.val && (b.map (chanOf node k)).route.isSome).map (chanOf node)
  ⟨chans, allSlots.filter fun n => chans.any fun c => (b.map c).route = some n⟩

/-- The effects of sending a ZERO: rezero-in-flight flags set, fresh masks cleared and settle windows
emptied, motion fields kept (R28, R51, R152). -/
def zeroSend (z : RezeroSet) (s : State) : State :=
  let s := z.chans.foldl (fun s c => s.modChan c fun r => { r with rezero := true }) s
  z.slots.foldl (fun s n => s.modSlot n fun v => { v with fresh := 0, window := none }) s

/-- The rezero set a forwarded frame starts with: present for a ZERO (R152). -/
def rezeroOf (b : Bank) (f : Frame) : Option RezeroSet :=
  match f.node, zeroMask f with
  | some node, some mask => some (rezeroSet b node mask)
  | _, _ => none

/-- A forward transaction starts with a frame that has left the queue (R144, R152). -/
def startForward (f : Frame) (rest : List Frame) (s : State) : State :=
  let z := rezeroOf s.acting f
  let s := match z with
    | some z => zeroSend z s
    | none => s
  s.modTrunk fun t =>
    { t with
      txn := some ⟨.forward f.node z, f, true, s.replyTimeout⟩
      forwards := rest
      lastKind := .forward }

/-! ## The roster pointer (R148) -/

/-- The roster pointer advances by one; the wrap is the roster turn, where a pending switch completes
(R12, R148). The second component is whether a switch completed. -/
def advanceRoster (s : State) : State × Bool :=
  if s.trunk.rosterPtr + 1 < s.acting.length then
    (s.modTrunk fun t => { t with rosterPtr := t.rosterPtr + 1 }, false)
  else
    let s := s.modTrunk fun t => { t with rosterPtr := 0 }
    match s.store.requested with
    | some target => (completeSwitch target s, true)
    | none => (s, false)

/-- A SKIP pass with `k` advances left (R147). The second component is whether it ended without a
transaction, so that the arbiter decides afresh. -/
def skipPass : Nat → State → State × Bool
  | 0, s =>
    match s.acting.entry s.trunk.rosterPtr with
    | some node => (startPoll node false s, false)
    | none => (s.modTrunk fun t => { t with rosterEmpty := true }, true)
  | k + 1, s =>
    match s.acting.entry s.trunk.rosterPtr with
    | some node => (startPoll node false s, false)
    | none =>
      match advanceRoster s with
      | (s', true) => (s', true)
      | (s', false) => skipPass k s'

/-! ## The arbiter (R146, R147) -/

/-- A motion poll is due (R146). -/
def motionDue (s : State) : Bool :=
  let h := s.acting.header.interleave.toNat
  h ≠ 0 && !s.trunk.motionList.isEmpty && h ≤ s.trunk.interleave

/-- A poll is available (R146). -/
def pollAvailable (s : State) : Bool :=
  s.store.serving.isSome && (motionDue s || (0 < s.acting.length && !s.trunk.rosterEmpty))

/-- The node at the motion list pointer. -/
def Trunk.motionNode (t : Trunk) : Option Node := t.motionList[t.motionPtr]?

/-- A poll is made (R147): a motion poll if one is due, otherwise a roster poll or a SKIP pass. -/
def makePoll (s : State) : State × Bool :=
  if motionDue s then
    match s.trunk.motionNode with
    | some node => (startPoll node true s, false)
    | none => (s, false)
  else skipPass s.acting.length s

/-- The arbiter decides, up to `k` times: a SKIP pass that ends without a transaction makes it decide
afresh (R146). It makes no decision while a transaction is in flight or the part listens (R156). -/
def arbiter : Nat → State → State
  | 0, s => s
  | k + 1, s =>
    if s.trunk.txn.isSome || s.trunk.listening.isSome then s
    else if s.trunk.lastKind = .forward && pollAvailable s then
      match makePoll s with
      | (s', true) => arbiter k s'
      | (s', false) => s'
    else
      match s.trunk.forwards with
      | f :: rest => startForward f rest s
      | [] =>
        if pollAvailable s then
          match makePoll s with
          | (s', true) => arbiter k s'
          | (s', false) => s'
        else s

/-- The arbiter's decision at one of the events of R146. -/
def arbitrate (s : State) : State := arbiter Config.arbiterDecisions s

/-! ## Ending transactions -/

/-- The transaction in flight is over. -/
def State.endTxn (s : State) : State := s.modTrunk fun t => { t with txn := none }

/-- The end of a poll transaction, after its reply or miss has been handled: a roster poll counts for the
interleave and advances the roster pointer; then the arbiter decides (R147, R148). -/
def endPoll (motion : Bool) (s : State) : State :=
  let s := s.endTxn
  if motion then arbitrate s
  else
    arbitrate (advanceRoster (s.modTrunk fun t => { t with interleave := satInc 15 t.interleave })).1

/-- A poll ends with an accepted reply (R139, R23). -/
def pollAccepted (node : Node) (motion : Bool) (payload : List Byte) (s : State) : State :=
  let s := s.modNode node fun r => { r with state := .alive, streak := 0 }
  endPoll motion (handleSample node payload s)

/-- A poll ends as a miss (R140). -/
def pollMissed (node : Node) (motion : Bool) (s : State) : State :=
  let before := s.node node
  let streak := min 3 (before.streak + 1)
  let lost := streak = 3 ∧ before.state ≠ .silent
  let s := s.modNode node fun r =>
    { r with
      misses := r.misses + 1
      streak := streak
      state := if lost then .silent else r.state }
  endPoll motion (if lost then nodeSilent s.acting node (s.nodeLoss node) else s)

/-- A frame for the return queue (R145): placed at the tail, or dropped and counted. -/
def placeReturn (f : Frame) (s : State) : State :=
  if s.link.returns.length < Config.queueCapacity then
    s.modLink fun l => { l with returns := l.returns ++ [f] }
  else s.modCounters fun c => { c with returnDrop := satInc Config.counterMax c.returnDrop }

/-- A reply is a NODE_RESP whose status byte reads OK (R153, R188). -/
def Frame.okResponse (f : Frame) : Bool :=
  f.kindCode = kindNodeResp && 2 ≤ f.payload.length && byteAt f.payload 1 = 0x00

/-- The end of a ZERO transaction: the rezero flags are cleared, and after an OK reply each slot of the
rezero set is reset to UNKNOWN (R153). -/
def zeroEnd (z : RezeroSet) (ok : Bool) (s : State) : State :=
  let s := z.chans.foldl (fun s c => s.modChan c fun r => { r with rezero := false }) s
  let b := s.acting
  if ok then z.slots.foldl (fun s n => zeroReset b n s) s else s

/-- A forward transaction to a node ends: its result goes to the return queue, then the ZERO snoop's
effects are made, then the arbiter decides (R145, R153). -/
def endForward (result : Frame) (rezero : Option RezeroSet) (ok : Bool) (s : State) : State :=
  let s := placeReturn result s.endTxn
  let s := match rezero with
    | some z => zeroEnd z ok s
    | none => s
  arbitrate s

/-! ## Frames received on the trunk -/

/-- The verdicts on a frame completed in a poll's reply window (R143). -/
inductive PollVerdict where
  | accepted
  | stale
  | bad
  deriving DecidableEq, Repr

/-- The verdict on a frame completed in the reply window of a poll to a node with a tag (R143, R188). -/
def judge (node : Node) (tag : BitVec 4) (f : Frame) : PollVerdict :=
  if f.crcOk && f.node = some node && f.towardAisle && f.kindCode = kindSample
      && f.payload.length = sampleLength then
    if f.tag = tag then .accepted else .stale
  else .bad

/-- A frame ends a forward transaction to a node with a reply (R144). -/
def isReply (node : Node) (f : Frame) : Bool := f.crcOk && f.node = some node && f.towardAisle

/-- A node's late replies count increases by 1 (R138). -/
def countLate (node : Node) (s : State) : State := s.modNode node fun r => { r with late := r.late + 1 }

/-- A frame completed while no reply window is open (R156). -/
def lateFrame (f : Frame) (s : State) : State :=
  match f.node with
  | some node => if f.crcOk && f.towardAisle then countLate node s else s
  | none => s

/-- A frame completed in an open reply window (R143, R144). -/
def windowFrame (t : Transaction) (f : Frame) (s : State) : State :=
  match t.kind with
  | .poll node tag motion =>
    match judge node tag f with
    | .accepted => pollAccepted node motion f.payload s
    | .stale => countLate node s
    | .bad => pollMissed node motion s
  | .forward (some node) rezero => if isReply node f then endForward f rezero f.okResponse s else s
  | .forward none _ => s

/-- A frame completed on the trunk. -/
def trunkFrame (f : Frame) (s : State) : State :=
  match s.trunk.txn with
  | some t => if t.sending then lateFrame f s else windowFrame t f s
  | none => lateFrame f s

/-- A frame in reception is abandoned: in a poll's reply window it is a bad frame, in a forward's the
window goes on (R142, R143, R144). -/
def trunkAbandon (s : State) : State :=
  match s.trunk.txn with
  | some ⟨.poll node _ motion, _, false, _⟩ => pollMissed node motion s
  | _ => s

/-- What a received byte brings about on the trunk. A framing error changes no error counter (R142). -/
def trunkEvent (e : RxEvent) (s : State) : State :=
  match e with
  | .nothing => s
  | .frame f => trunkFrame f s
  | .overLength => trunkAbandon s
  | .framingInHunt => s
  | .framingInFrame => trunkAbandon s

/-- A byte received on the trunk (R142). -/
def trunkByte (s : State) (b : RxByte) : State :=
  let (a, e) := s.trunk.rx.receive b
  trunkEvent e (s.modTrunk fun t => { t with rx := a })

/-! ## The trunk rows -/

/-- TRUNK_FRAME_SENT (R142, R144): the last byte of the frame being sent leaves the part. A broadcast
ends, any other transaction opens its reply window. With nothing being sent the event does not occur. -/
def execTrunkFrameSent (s : State) : Host.Outcome State Fault Refusal :=
  .next (match s.trunk.txn with
    | some ⟨.forward none _, _, true, _⟩ => arbitrate s.endTxn
    | some ⟨k, f, true, timeout⟩ => s.modTrunk fun t => { t with txn := some ⟨k, f, false, timeout⟩ }
    | _ => s)

/-- TRUNK_FRAME_RECEIVED (R143, R144, R156): a run of bytes arrives on the trunk. -/
def execTrunkFrameReceived (bytes : List RxByte) (s : State) : Host.Outcome State Fault Refusal :=
  .next (bytes.foldl trunkByte s)

/-- TRUNK_GAP_ABANDON (R142): a frame in reception is abandoned; in HUNT the preamble count becomes 0. -/
def execTrunkGapAbandon (s : State) : Host.Outcome State Fault Refusal :=
  let t := s.modTrunk fun t => { t with rx := Assembler.reset }
  .next (if s.trunk.rx.inFrame then trunkAbandon t else t)

/-- TRUNK_FRAME_ABANDONED (R142): a byte arrives that abandons the trunk frame in reception. A byte that
would not abandon it is no such event. -/
def execTrunkFrameAbandoned (b : RxByte) (s : State) : Host.Outcome State Fault Refusal :=
  .next (match (s.trunk.rx.receive b).2 with
    | .overLength => trunkByte s b
    | .framingInFrame => trunkByte s b
    | _ => s)

/-- REPLY_WINDOW_CLOSE (R142, R143, R145): a frame still in reception is abandoned, a poll ends as a miss
and a forward ends in failure. With no reply window open the event does not occur. -/
def execReplyWindowClose (s : State) : Host.Outcome State Fault Refusal :=
  let u := s.modTrunk fun t => { t with rx := if t.rx.inFrame then Assembler.reset else t.rx }
  .next (match s.trunk.txn with
    | some ⟨.poll node _ motion, _, false, _⟩ => pollMissed node motion u
    | some ⟨.forward (some node) rezero, f, false, _⟩ => endForward (fwdFailFrame node f) rezero false u
    | _ => s)

/-- LISTEN_PERIOD_END (R156): the listening period after a SOFT_RESET ends and the arbiter makes its first
decision. -/
def execListenPeriodEnd (s : State) : Host.Outcome State Fault Refusal :=
  .next (if s.trunk.listening.isSome then
      arbitrate (s.modTrunk fun t => { t with listening := none })
    else s)

end Sys2Proof.Machine
end

