-- ==== Sys2Proof/Machine/AisleLink.lean ====
section
/-!
DEFINITION. The aisle link interface (sections 10.1 and 10.2): bytes received and their dispatch, and the
uplink transmitter with its three producers.
-/

namespace Sys2Proof.Machine

/-! ## Receiving (R158 to R161) -/

/-- A request frame for the request queue (R161, R162). -/
def queueRequest (f : Frame) (s : State) : State :=
  if s.mgmt.requests.length < Config.queueCapacity then
    s.modMgmt fun m => { m with requests := m.requests ++ [f] }
  else s.modCounters fun c => { c with requestDrop := satInc Config.counterMax c.requestDrop }

/-- A node command for the forward queue (R161); a frame that joins it is an event at the arbiter (R146). -/
def queueForward (f : Frame) (s : State) : State :=
  if s.trunk.forwards.length < Config.queueCapacity then
    arbitrate (s.modTrunk fun t => { t with forwards := t.forwards ++ [f] })
  else s.modCounters fun c => { c with forwardDrop := satInc Config.counterMax c.forwardDrop }

/-- Dispatch of a complete frame by the first row of Table 10-2 that matches (R161). -/
def dispatch (f : Frame) (s : State) : State :=
  if f.station = s.ownStation ∧ f.towardAisle = false ∧ f.zeroBit = false ∧ f.kindCode = kindMgmtReq then
    queueRequest f s
  else if f.station ≤ 32 ∧ f.towardAisle = false ∧ f.zeroBit = false ∧ f.kindCode = kindNodeCmd then
    queueForward f s
  else s.modCounters fun c => { c with misdirected := satInc Config.counterMax c.misdirected }

/-- What a received byte brings about on the aisle link (R159, R160). -/
def linkEvent (e : RxEvent) (s : State) : State :=
  match e with
  | .nothing => s
  | .frame f =>
    if f.crcOk then dispatch f s
    else s.modCounters fun c => { c with crc := satInc Config.counterMax c.crc }
  | .overLength => s.modCounters fun c => { c with length := satInc Config.counterMax c.length }
  | .framingInHunt => s.modCounters fun c => { c with framing := satInc Config.counterMax c.framing }
  | .framingInFrame => s.modCounters fun c => { c with framing := satInc Config.counterMax c.framing }

/-- A byte received on the aisle link (R158, R159). -/
def linkByte (s : State) (b : RxByte) : State :=
  let (a, e) := s.link.rx.receive b
  linkEvent e (s.modLink fun l => { l with rx := a })

/-- ALINK_FRAME_RECEIVED (R159): a run of bytes arrives on the aisle link. -/
def execAlinkFrameReceived (bytes : List RxByte) (s : State) : Host.Outcome State Fault Refusal :=
  .next (bytes.foldl linkByte s)

/-- HUNT_BYTE_RECEIVED (R158): one byte arrives while the assembler is in HUNT. In another assembler state
the event does not occur. -/
def execHuntByteReceived (b : RxByte) (s : State) : Host.Outcome State Fault Refusal :=
  .next (if s.link.rx.inFrame then s else linkByte s b)

/-- ALINK_GAP_ABANDON (R158, R160): a gap of more than 2 ms abandons the frame in assembly and counts it, or
sets the preamble count to 0 in HUNT. -/
def execAlinkGapAbandon (s : State) : Host.Outcome State Fault Refusal :=
  let t := s.modLink fun l => { l with rx := Assembler.reset }
  .next (if s.link.rx.inFrame then
      t.modCounters fun c => { c with gap := satInc Config.counterMax c.gap }
    else t)

/-! ## Sending (R163 to R165) -/

/-- The producers of uplink frames, in the order of R164. -/
inductive Producer where
  | mgmt
  | returns
  | alerts
  deriving DecidableEq, Repr

/-- The producer the transmitter grants the uplink to: the first that is ready, while the uplink is idle
(R164). -/
def State.granted (s : State) : Option Producer :=
  if s.link.uplink.isSome then none
  else if s.mgmt.response.isSome then some .mgmt
  else if !s.link.returns.isEmpty then some .returns
  else if !s.alerts.isEmpty then some .alerts
  else none

/-- The uplink starts sending a frame. -/
def State.send (s : State) (f : Frame) (resets : Bool) : State :=
  s.modLink fun l => { l with uplink := some ⟨f, resets⟩ }

/-- A frame of the part's own: the own station address, toward the aisle (R165). -/
def ownFrame (s : State) (tag : BitVec 4) (kind : Nat) (payload : List Byte) : Frame :=
  formFrame (addrByte s.ownStation true) (kindByte tag kind) payload

/-- What is left of a response after its next part has been granted; the response is given up with its
last part (R166). -/
def Response.rest (r : Response) : Option Response :=
  match r.parts with
  | _ :: p :: ps => some { r with parts := p :: ps }
  | _ => none

/-- The next response part is sent (R164, R165). -/
def sendPart (r : Response) (s : State) : State :=
  (s.modMgmt fun m => { m with response := r.rest }).send
    (ownFrame s r.tag kindMgmtResp (r.parts.headD [])) s.mgmt.softReset

/-- RESPONSE_PART_GRANT (R164). Where the transmitter does not grant the MU the event does not occur. -/
def execResponsePartGrant (s : State) : Host.Outcome State Fault Refusal :=
  .next (if s.granted = some .mgmt then
      match s.mgmt.response with
      | some r => sendPart r s
      | none => s
    else s)

/-- RETURN_FRAME_GRANT (R163): the head of the return queue leaves it and is sent unchanged. -/
def execReturnFrameGrant (s : State) : Host.Outcome State Fault Refusal :=
  .next (if s.granted = some .returns then
      match s.link.returns with
      | f :: rest => (s.modLink fun l => { l with returns := rest }).send f false
      | [] => s
    else s)

/-- The most entries one ALERT frame carries (R134). -/
abbrev alertFrameMax : Nat := 4

/-- The first entries of the queue leave it in one ALERT frame, the alert sequence advances, and one
re-offer follows for each entry that left (R134, R165, R191). -/
def sendAlerts (s : State) : State :=
  let out := s.alerts.take alertFrameMax
  let f := ownFrame s s.link.alertSeq kindAlert (alertPayload out)
  reoffers s.acting out.length
    (((s.setAlerts (s.alerts.drop alertFrameMax)).send f false).modLink fun l =>
      { l with alertSeq := l.alertSeq + 1 })

/-- ALERT_GRANT (R134). -/
def execAlertGrant (s : State) : Host.Outcome State Fault Refusal :=
  .next (if s.granted = some .alerts then sendAlerts s else s)

/-- UPLINK_FRAME_DONE (R164): the last byte of the granted frame leaves the part and the uplink becomes
idle. The last byte of a SOFT_RESET response is the reset point (R176). -/
def execUplinkFrameDone (s : State) : Host.Outcome State Fault Refusal :=
  .next (if s.atResetPoint then s.afterSoftReset else s.modLink fun l => { l with uplink := none })

end Sys2Proof.Machine
end

