-- ==== Sys2Proof/Machine/Sessions.lean ====
section
/-!
DEFINITION. The restock session table (chapter 7): opening, closing and expiry of sessions, and the
re-evaluation of the slots at a close.
-/

namespace Sys2Proof.Machine

/-- The LAPSED alert of an expiry (R121). -/
def lapsedAlert (id : SessionId) (r : Session) (s : State) : Alert where
  key := .session id
  kind := .lapsed
  reason := .noReason
  count := none
  added := some r.added
  projection := none
  article := none
  time := s.now

/-- The re-evaluation of one slot at a close (R118), its deficit-at-open flag aside. -/
def reevaluate (b : Bank) (n : Slot) (s : State) : State :=
  let v := s.slot n
  if (b.cfg n).enabled = false then s
  else match v.stock with
    | .unknown => s
    | .stocked => if v.deficit && (b.cfg n).notify then raiseStock b n .recovered s else s
    | _ =>
      let s := s.modSlot n fun v => { v with acked := false }
      let s := match standing (b.cfg n).mode (b.cfg n).emptyAlert v.stock with
        | some kind => raiseStock b n kind s
        | none => s
      s.modSlot n fun v => { v with deadline := some (freshDeadline b n s) }

/-- One slot of a close: its re-evaluation, then its deficit-at-open flag is cleared (R117). -/
def closeSlot (b : Bank) (n : Slot) (s : State) : State :=
  (reevaluate b n s).modSlot n fun v => { v with deficit := false }

/-- The close of an OPEN session (R117). The record leaves OPEN first, so the slots of its range are not
covered while they are re-evaluated. -/
def closeSession (b : Bank) (id : SessionId) (r : Session) (expired : Bool) (s : State) : State :=
  let s := s.setSession id none
  let s := if expired then raiseAlert b (lapsedAlert id r s) s else s
  (slotRange r.first r.last).foldl (fun s n => closeSlot b n s) s

/-- The deadline test of one record at a minute tick, and its expiry (R116). -/
def expireOne (b : Bank) (id : SessionId) (s : State) : State :=
  match s.session id with
  | some r => if reached s.minute r.deadline then closeSession b id r true s else s
  | none => s

/-- What the restock session table does at a minute tick, in ascending id (R116). -/
def sessionsPass (b : Bank) (s : State) : State := allSessions.foldl (fun s id => expireOne b id s) s

/-- The lowest-numbered OPEN record whose range shares a slot with a range (R112). -/
def State.overlapping (s : State) (first last : Slot) : Option SessionId :=
  allSessions.find? fun id => (s.session id).any fun r => r.first ≤ last && first ≤ r.last

/-- The FREE record with the lowest id (R113). -/
def State.lowestFree (s : State) : Option SessionId :=
  allSessions.find? fun id => (s.session id).isNone

/-- The deficit-at-open flags of a range are set or cleared (R114). -/
def markDeficits (first last : Slot) (s : State) : State :=
  (slotRange first last).foldl
    (fun s n => s.modSlot n fun v => { v with deficit := v.stock.short }) s

/-- The record of a session that opens now (R113). -/
def openedSession (src : Source) (first last : Slot) (duration : Nat) (s : State) : Session where
  first := first
  last := last
  opener := src
  openedAt := s.now
  deadline := s.minute + BitVec.ofNat 32 duration
  added := 0

/-- The opening of the record with this id (R113). -/
def openSession (id : SessionId) (r : Session) (s : State) : State :=
  markDeficits r.first r.last (s.setSession id (some r))

end Sys2Proof.Machine
end

