-- ==== Sys2Proof/Machine/Requests.lean ====
section
/-!
DEFINITION. The management unit (section 10.3 to 10.5, chapter 11): taking a request from the head of the
request queue, each request's checks and effects in the order its rule states, and its response.
-/

namespace Sys2Proof.Machine

/-! ## Taking a request and answering it (R162, R166) -/

/-- What carrying out a request gives: its status, its results, the state its effects leave, and whether a
switch became pending or completed, which is an event at the trunk arbiter (R146). -/
structure Answer where
  status : Status
  results : List Byte
  state : State
  arbitrates : Bool := false

/-- A refusal or answer with no results that leaves a state. -/
def Answer.plain (status : Status) (s : State) : Answer := { status := status, results := [], state := s }

/-- A refusal for want of a right: DENIED, and the denial in the protection capture (R185). -/
def Answer.denied (src : Source) (code : Byte) (slot : Option Slot) (s : State) : Answer :=
  .plain .denied (s.denial src code slot)

/-- The response is in hand (R166). -/
def State.respond (s : State) (tag : BitVec 4) (code : Byte) (status : Status) (results : List Byte) : State :=
  s.modMgmt fun m => { m with response := some ⟨tag, responseParts code status results⟩ }

/-- The request frame the MU takes now: the head of the request queue, when no response is in hand and no
SOFT_RESET has been accepted (R162, R176). -/
def State.nextRequest (s : State) : Option Frame :=
  if s.mgmt.response.isSome || s.mgmt.softReset then none else s.mgmt.requests.head?

/-- Taking a frame removes it from the queue (R162). -/
def State.dropRequest (s : State) : State := s.modMgmt fun m => { m with requests := m.requests.tail }

/-- The response to a carried-out request, then the arbiter's decision if the request brought one about
(assumption 8). -/
def finish (f : Frame) (code : Byte) (a : Answer) : State :=
  let s := a.state.respond f.tag code a.status a.results
  if a.arbitrates then arbitrate s else s

/-- The MU takes the request at the head of its queue and carries it out, if it is a request of this code
that passes the checks of R166. Otherwise the event does not occur (assumption 5). -/
def takeRequest (code : Byte) (h : Source → List Byte → State → Answer) (s : State) : State :=
  match s.nextRequest with
  | none => s
  | some f =>
    match screen f.payload with
    | .good src c args => if c = code then finish f c (h src args s.dropRequest) else s
    | .bad _ _ => s

/-- UNDEFINED_REQUEST (R166): the request at the head of the queue fails the header, code or shape check.
It is answered and changes nothing else. -/
def execUndefinedRequest (s : State) : Host.Outcome State Fault Refusal :=
  .next (match s.nextRequest with
    | none => s
    | some f =>
      match screen f.payload with
      | .bad code status => s.dropRequest.respond f.tag code status []
      | .good _ _ _ => s)

/-! ## LOAD_RECORDS (R167 to R169) -/

/-- Where a LOAD_RECORDS stands: the load pointer, the counts, and the first refused position and code. -/
structure LoadProgress where
  pointer : Nat
  accepted : Nat
  skipped : Nat
  refused : Option (Nat × Status)
  deriving DecidableEq, Repr

/-- The request-level checks (R167). `none` when all pass. -/
def loadChecks (a : LoadArgs) (st : TableStore) : Option Status :=
  match tableOfCode a.tableCode, bankOfCode a.bank with
  | some t, some bank =>
    if 2 < a.condition ∨ (a.condition ≠ 0 ∧ t.lastField < a.field) ∨ a.count = 0 ∨ 8 < a.count then
      some .badField
    else if st.serving = some bank then some .activeBank
    else if st.requested = some bank then some .bankLocked
    else if a.last < a.first ∨ t.lastPosition < a.last ∨ t.lastPosition < a.first ∨ a.start < a.first
        ∨ a.last < a.start then some .badIndex
    else none
  | _, _ => some .badField

/-- The right a record needs, and the slot a denial names (R168, Table 11-1). -/
def loadRight (t : Table) (src : Source) (pos : Nat) (z : Zones) : Bool :=
  match t with
  | .slotCfg => if h : pos < 256 then z.holds src .config ⟨pos, h⟩ else false
  | .channelMap => z.plan src
  | .roster => z.plan src

/-- The slot a denied record records in the capture (Table 11-1). -/
def loadDeniedSlot (t : Table) (pos : Nat) : Option Slot :=
  match t with
  | .slotCfg => if h : pos < 256 then some ⟨pos, h⟩ else none
  | .channelMap => none
  | .roster => none

/-- The condition lets the record go on (R168, step 2). A field the position does not hold counts as not
equal. -/
def conditionHolds (a : LoadArgs) (t : Table) (b : Bank) (pos : Nat) : Bool :=
  match a.condition with
  | 0 => true
  | 1 => b.field t pos a.field = some a.value
  | _ => b.field t pos a.field ≠ some a.value

/-- The pointer after a record (R168, step 5). -/
def nextPosition (a : LoadArgs) (pos : Nat) : Nat := if pos = a.last then a.first else pos + 1

/-- The progress after a refused record (R169). -/
def LoadProgress.refuse (p : LoadProgress) (a : LoadArgs) (status : Status) : LoadProgress :=
  { p with
    pointer := nextPosition a p.pointer
    skipped := p.skipped + 1
    refused := some (p.refused.getD (p.pointer, status)) }

/-- One record of a performed LOAD_RECORDS (R168). -/
def loadRecord (src : Source) (a : LoadArgs) (t : Table) (bank : BankId) (acc : State × LoadProgress)
    (r : List Byte) : State × LoadProgress :=
  let (s, p) := acc
  if loadRight t src p.pointer s.zones = false then
    (s.denial src codeLoadRecords (loadDeniedSlot t p.pointer), p.refuse a .denied)
  else if conditionHolds a t (s.store.bank bank) p.pointer = false then
    (s, { p with pointer := nextPosition a p.pointer, skipped := p.skipped + 1 })
  else
    match (s.store.bank bank).write t p.pointer a.mask r with
    | .ok b =>
      (s.modStore fun st => st.setBank bank b,
        { p with pointer := nextPosition a p.pointer, accepted := p.accepted + 1 })
    | .error status => (s, p.refuse a status)

/-- The four results of a performed LOAD_RECORDS (R169, assumption 11). -/
def LoadProgress.results (p : LoadProgress) : List Byte :=
  [BitVec.ofNat 8 p.accepted, BitVec.ofNat 8 p.skipped]
    ++ (match p.refused with
      | some (pos, status) => [1, BitVec.ofNat 8 pos, status.code]
      | none => [0, 0, 0])
    ++ [BitVec.ofNat 8 p.pointer]

/-- LOAD_RECORDS carried out (R167 to R169). -/
def loadRequest (src : Source) (args : List Byte) (s : State) : Answer :=
  let a := loadArgs args
  match loadChecks a s.store with
  | some status => .plain status s
  | none =>
    match tableOfCode a.tableCode, bankOfCode a.bank with
    | some t, some bank =>
      let rs := splitRecords t.recordSize a.count (args.drop loadFixed)
      let (s, p) := rs.foldl (loadRecord src a t bank) (s, ⟨a.start, 0, 0, none⟩)
      { status := .ok, results := p.results, state := s }
    | _, _ => .plain .badField s

/-- LOAD_RECORDS (R168). -/
def execLoadRecords (s : State) : Host.Outcome State Fault Refusal :=
  .next (takeRequest codeLoadRecords loadRequest s)

/-! ## READ_RECORDS and COPY_BANK (R170, R171) -/

/-- READ_RECORDS carried out (R170). R189 names the members of a slot and the motion list as the lists that a count
byte precedes and does not say whether the 1 to 8 records of this answer form such a list; the model sends none,
since the request gives their number (DESIGN CHOICE, unsafe: assumption 21). -/
def readRecordsRequest (_src : Source) (args : List Byte) (s : State) : Answer :=
  let first := (byteAt args 2).toNat
  let count := (byteAt args 3).toNat
  match tableOfCode (byteAt args 0), bankOfCode (byteAt args 1) with
  | some t, some bank =>
    if count = 0 ∨ 8 < count then .plain .badField s
    else if t.lastPosition < first + count - 1 then .plain .badIndex s
    else
      { status := .ok
        results := (List.range count).flatMap fun i => (s.store.bank bank).read t (first + i)
        state := s }
  | _, _ => .plain .badField s

/-- READ_RECORDS (R170). -/
def execReadRecords (s : State) : Host.Outcome State Fault Refusal :=
  .next (takeRequest codeReadRecords readRecordsRequest s)

/-- COPY_BANK carried out (R171, R7). -/
def copyRequest (src : Source) (_args : List Byte) (s : State) : Answer :=
  if s.zones.plan src = false then .denied src codeCopyBank none s
  else match s.store.serving with
    | none => .plain .badRequest s
    | some id =>
      if s.store.requested.isSome then .plain .bankLocked s
      else
        { status := .ok
          results := [bankCode (some id.other)]
          state := s.modStore fun st => st.setBank id.other (st.bank id) }

/-- COPY_BANK (R171). -/
def execCopyBank (s : State) : Host.Outcome State Fault Refusal :=
  .next (takeRequest codeCopyBank copyRequest s)

/-! ## SWITCH_BANK and CANCEL_SWITCH (R10, R11) -/

/-- The switch state as SWITCH_BANK, CANCEL_SWITCH and READ_STATUS report it (R172, R173). R189 sends a flag as 1 when
set and a state by its place in the list of its values, and section 1.2 lists pending before not pending; which of the
two "whether a switch is pending" is, is not said. The model sends a flag, 1 when pending (DESIGN CHOICE, unsafe:
assumption 25). -/
def switchResults (st : TableStore) : List Byte :=
  [bankCode st.serving, flagByte st.requested.isSome, bankCode st.requested]

/-- An answer that reports the switch state its effects have left (R172). -/
def switchAnswer (status : Status) (arbitrates : Bool) (s : State) : Answer :=
  { status := status, results := switchResults s.store, state := s, arbitrates := arbitrates }

/-- A switch becomes pending; the roster-empty mark is cleared (R10, R148). -/
def pendSwitch (target : BankId) (s : State) : State :=
  (s.modStore fun st => { st with requested := some target }).modTrunk fun t =>
    { t with rosterEmpty := false }

/-- SWITCH_BANK carried out: the checks, then the first matching row of Table 1-8 (R10). -/
def switchRequest (src : Source) (args : List Byte) (s : State) : Answer :=
  match bankOfCode (byteAt args 0) with
  | none => .plain .badField s
  | some target =>
    if s.zones.plan src = false then .denied src codeSwitchBank none s
    else if s.store.serving = some target then
      if s.store.requested.isSome then
        switchAnswer .cancelled false (s.modStore fun st => { st with requested := none })
      else switchAnswer .same false s
    else if s.store.requested = some target then switchAnswer .pending false s
    else if s.store.serving = none ∨ s.acting.length = 0 then
      switchAnswer .ok true (completeSwitch target s)
    else switchAnswer .pending true (pendSwitch target s)

/-- SWITCH_BANK (R10). -/
def execSwitchBank (s : State) : Host.Outcome State Fault Refusal :=
  .next (takeRequest codeSwitchBank switchRequest s)

/-- CANCEL_SWITCH carried out (R11). -/
def cancelRequest (src : Source) (_args : List Byte) (s : State) : Answer :=
  if s.zones.plan src = false then .denied src codeCancelSwitch none s
  else if s.store.requested.isSome then
    switchAnswer .cancelled false (s.modStore fun st => { st with requested := none })
  else switchAnswer .nothingPending false s

/-- CANCEL_SWITCH (R11). -/
def execCancelSwitch (s : State) : Host.Outcome State Fault Refusal :=
  .next (takeRequest codeCancelSwitch cancelRequest s)

/-! ## OPEN_RESTOCK and CLOSE_RESTOCK (R110 to R117) -/

/-- The lowest slot of a range on which the source lacks SESSION (R111). -/
def lackingSession (z : Zones) (src : Source) (first last : Slot) : Option Slot :=
  (slotRange first last).find? fun n => z.holds src .session n = false

/-- OPEN_RESTOCK carried out, in the order of R110 to R113. Table 7-1 lets the deadline be absent in a FREE record, and
R189 does not say whether the OK response's deadline, always present, bears a presence byte; the model sends none
(DESIGN CHOICE, unsafe: assumption 22). -/
def openRequest (src : Source) (args : List Byte) (s : State) : Answer :=
  let first := slotOfByte (byteAt args 0)
  let last := slotOfByte (byteAt args 1)
  let duration := (byteAt args 2).toNat
  if duration = 0 then .plain .badField s
  else if last < first then .plain .badIndex s
  else match lackingSession s.zones src first last with
    | some n => .denied src codeOpenRestock (some n) s
    | none =>
      match s.overlapping first last with
      | some id =>
        { status := .overlap, results := [BitVec.ofNat 8 id.val], state := s }
      | none =>
        match s.lowestFree with
        | none => .plain .full s
        | some id =>
          let r := openedSession src first last duration s
          { status := .ok
            results := BitVec.ofNat 8 id.val :: beBytes 4 r.deadline.toNat
            state := openSession id r s }

/-- OPEN_RESTOCK (R113). -/
def execOpenRestock (s : State) : Host.Outcome State Fault Refusal :=
  .next (takeRequest codeOpenRestock openRequest s)

/-- CLOSE_RESTOCK carried out (R115). Table 7-1 lets the units added be absent in a FREE record, and R189 does not say
whether the OK response's units added, always present, bear a presence byte; the model sends none (DESIGN CHOICE,
unsafe: assumption 22). -/
def closeRequest (src : Source) (args : List Byte) (s : State) : Answer :=
  if h : (byteAt args 0).toNat < 8 then
    let id : SessionId := ⟨(byteAt args 0).toNat, h⟩
    match s.session id with
    | none => .plain .noSession s
    | some r =>
      if s.zones.holds src .session r.first = false then .denied src codeCloseRestock (some r.first) s
      else
        { status := .ok
          results := beBytes 4 r.added.toNat
          state := closeSession s.acting id r false s }
  else .plain .badIndex s

/-- CLOSE_RESTOCK (R115). -/
def execCloseRestock (s : State) : Host.Outcome State Fault Refusal :=
  .next (takeRequest codeCloseRestock closeRequest s)

/-! ## ACK_SLOT (R89, R90) -/

/-- Acknowledging a slot (R90). -/
def acknowledge (b : Bank) (n : Slot) (s : State) : State :=
  withdrawSlot b n AlertKind.acknowledged (s.modSlot n fun v => { v with acked := true, inspection := none })

/-- One named slot of an ACK_SLOT, with the results so far (R89). -/
def ackOne (src : Source) (acc : State × List Status) (n : Slot) : State × List Status :=
  if acc.1.zones.holds src .ack n then (acknowledge acc.1.acting n acc.1, acc.2 ++ [.ok])
  else (acc.1.denial src codeAckSlot (some n), acc.2 ++ [.denied])

/-- ACK_SLOT carried out (R89). R189 gives one status byte per named slot and does not say whether the statuses are
a list that a count byte precedes; the model sends none (DESIGN CHOICE, unsafe: assumption 21). -/
def ackRequest (src : Source) (args : List Byte) (s : State) : Answer :=
  if args.length = 0 ∨ 8 < args.length then .plain .badField s
  else
    let (s, rs) := (args.map slotOfByte).foldl (ackOne src) (s, [])
    { status := if rs.all (· = .ok) then .ok else .denied
      results := rs.map Status.code
      state := s }

/-- ACK_SLOT (R89). -/
def execAckSlot (s : State) : Host.Outcome State Fault Refusal :=
  .next (takeRequest codeAckSlot ackRequest s)

/-! ## SET_ALERT_MASK (R132, R172) -/

/-- The mask after the set-mask and then the clear-mask (R132). -/
def maskAfter (mask set clear : BitVec 7) : BitVec 7 := (mask ||| set) &&& ~~~clear

/-- SET_ALERT_MASK's effects: the mask, then the held flags and the queued entries of the newly suppressed
kinds (R132). -/
def applyMask (set clear : BitVec 7) (s : State) : State :=
  let old := s.mgmt.mask
  let new := maskAfter old set clear
  let newly := fun k => maskHas new k && !maskHas old k
  withdrawKinds s.acting newly (clearHeld newly (s.modMgmt fun m => { m with mask := new }))

/-- SET_ALERT_MASK carried out (R172). -/
def maskRequest (src : Source) (args : List Byte) (s : State) : Answer :=
  if (byteAt args 0).getLsbD 7 || (byteAt args 1).getLsbD 7 then .plain .badField s
  else if s.zones.plan src = false then .denied src codeSetAlertMask none s
  else
    let s := applyMask ((byteAt args 0).setWidth 7) ((byteAt args 1).setWidth 7) s
    { status := .ok, results := [s.mgmt.mask.setWidth 8], state := s }

/-- SET_ALERT_MASK (R132). -/
def execSetAlertMask (s : State) : Host.Outcome State Fault Refusal :=
  .next (takeRequest codeSetAlertMask maskRequest s)

/-! ## Zones (R182 to R184) -/

/-- A zone as 10 bytes (R189). -/
def Zone.toBytes (z : Zone) : List Byte :=
  BitVec.ofNat 8 z.first.val :: BitVec.ofNat 8 z.last.val
    :: z.grants.toList.map fun g => BitVec.ofNat 8 g.toNat

/-- The zone tables as 49 bytes: four zones, eight rights bytes, the lock (R189). -/
def Zones.toBytes (z : Zones) : List Byte :=
  z.zones.toList.flatMap Zone.toBytes ++ (z.rights.toList.map fun r => BitVec.ofNat 8 r.toNat)
    ++ [flagByte z.locked]

/-- An answer that carries the zone tables as they stand after the request (section 11.4). -/
def zoneAnswer (status : Status) (s : State) : Answer :=
  { status := status, results := s.zones.toBytes, state := s }

/-- A zone from the arguments of SET_ZONE (R182). -/
def zoneOfArgs (args : List Byte) : Zone where
  first := slotOfByte (byteAt args 1)
  last := slotOfByte (byteAt args 2)
  grants := Vector.ofFn fun i : Fin 8 => GrantSet.ofByte (byteAt args (3 + i.val))

/-- SET_ZONE carried out (R182). -/
def zoneRequest (src : Source) (args : List Byte) (s : State) : Answer :=
  if h : (byteAt args 0).toNat < 4 then
    if s.zones.admin src = false then .denied src codeSetZone none s
    else if s.zones.locked then zoneAnswer .locked s
    else zoneAnswer .ok (s.modZones fun z =>
      { z with zones := z.zones.set (byteAt args 0).toNat (zoneOfArgs args) })
  else .plain .badIndex s

/-- SET_ZONE (R182). -/
def execSetZone (s : State) : Host.Outcome State Fault Refusal :=
  .next (takeRequest codeSetZone zoneRequest s)

/-- SET_SOURCE_RIGHTS carried out (R183). -/
def rightsRequest (src : Source) (args : List Byte) (s : State) : Answer :=
  if h : (byteAt args 0).toNat < 8 then
    if s.zones.admin src = false then .denied src codeSetSourceRights none s
    else if s.zones.locked then zoneAnswer .locked s
    else zoneAnswer .ok (s.modZones fun z =>
      { z with rights := z.rights.set (byteAt args 0).toNat (SourceRights.ofByte (byteAt args 1)) })
  else .plain .badIndex s

/-- SET_SOURCE_RIGHTS (R183). -/
def execSetSourceRights (s : State) : Host.Outcome State Fault Refusal :=
  .next (takeRequest codeSetSourceRights rightsRequest s)

/-- LOCK_ZONES carried out (R184). -/
def lockRequest (src : Source) (_args : List Byte) (s : State) : Answer :=
  if s.zones.admin src = false then .denied src codeLockZones none s
  else if s.zones.locked then zoneAnswer .locked s
  else zoneAnswer .ok (s.modZones fun z => { z with locked := true })

/-- LOCK_ZONES (R184). -/
def execLockZones (s : State) : Host.Outcome State Fault Refusal :=
  .next (takeRequest codeLockZones lockRequest s)

/-! ## State reads (R173) -/

/-- A session record as READ_STATUS reports it (R108): its id and state, then each field of an OPEN record
behind a presence byte. -/
def sessionBytes (id : SessionId) (r : Option Session) : List Byte :=
  [BitVec.ofNat 8 id.val, flagByte r.isSome]
    ++ optBytes 1 (r.map (·.first.val)) ++ optBytes 1 (r.map (·.last.val))
    ++ optBytes 1 (r.map (·.opener.val)) ++ optBytes 4 (r.map (·.openedAt.toNat))
    ++ optBytes 4 (r.map (·.deadline.toNat)) ++ optBytes 4 (r.map (·.added.toNat))

/-- A node's address as a byte. -/
def nodeByte (n : Node) : Byte := BitVec.ofNat 8 (nodeAddress n)

/-- The number of held-back slots (R123). -/
def State.heldCount (s : State) : Nat := s.slots.toList.countP (·.held.isSome)

/-- The results of READ_STATUS, in the order of R173. -/
def statusBytes (s : State) : List Byte :=
  switchResults s.store ++ [s.mgmt.cause.code]
    ++ beBytes 4 s.time.seconds.toNat ++ beBytes 4 s.time.minutes.toNat
    ++ [BitVec.ofNat 8 s.mgmt.requests.length, BitVec.ofNat 8 s.link.returns.length,
        BitVec.ofNat 8 (s.alerts.countP (·.urgent)), BitVec.ofNat 8 (s.alerts.countP fun e => !e.urgent)]
    ++ beBytes 2 s.heldCount
    ++ allSessions.flatMap (fun id => sessionBytes id (s.session id))
    ++ (BitVec.ofNat 8 s.trunk.motionList.length :: s.trunk.motionList.map nodeByte)
    ++ [flagByte s.zones.locked]

/-- READ_STATUS carried out (R173). -/
def statusRequest (_src : Source) (_args : List Byte) (s : State) : Answer :=
  { status := .ok, results := statusBytes s, state := s }

/-- READ_STATUS (R173). -/
def execReadStatus (s : State) : Host.Outcome State Fault Refusal :=
  .next (takeRequest codeReadStatus statusRequest s)

/-- The members of a slot as a list with its count byte (R189). -/
def memberBytes (ms : List (Chan × ChanMap)) : List Byte :=
  BitVec.ofNat 8 ms.length
    :: ms.flatMap fun p => [BitVec.ofNat 8 p.1.val, BitVec.ofNat 8 p.2.source.code]

/-- A settle window: empty or open, then its four fields (R40). -/
def windowBytes (w : Option Window) : List Byte :=
  [flagByte w.isSome]
    ++ (flagByte w.isSome :: beInt 4 (w.elim 0 (·.anchor)))
    ++ (flagByte w.isSome :: beInt 4 (w.elim 0 (·.sum)))
    ++ optBytes 1 (w.map (·.agree)) ++ optBytes 1 (w.map (·.count))

/-- The results of READ_SLOT for one slot, in the order of R173. -/
def slotBytes (s : State) (n : Slot) : List Byte :=
  let v := s.slot n
  let b := s.acting
  (flagByte (b.cfg n).enabled :: memberBytes (b.members n))
    ++ [v.fresh.setWidth 8, flagByte v.fault.isSome]
    ++ optBytes 1 (v.fault.map fun r => r.alertReason.code)
    ++ windowBytes v.window
    ++ (flagByte v.motion.isSome :: optBytes 4 (v.motion.map (·.toNat)))
    ++ [flagByte v.motionReported]
    ++ (flagByte v.lastSettled.isSome :: beInt 4 (v.lastSettled.getD 0))
    ++ (v.stock.code :: optBytes 2 v.count)
    ++ (flagByte v.acked :: optBytes 4 (v.deadline.map (·.toNat)))
    ++ [BitVec.ofNat 8 v.streak, flagByte v.inspection.isSome]
    ++ optBytes 1 (v.inspection.map fun r => r.alertReason.code)
    ++ beBytes 4 v.removed.toNat ++ beBytes 4 v.putBack.toNat ++ beBytes 4 v.replenished.toNat
    ++ beBytes 4 v.removedSum ++ optBytes 1 v.elapsed ++ optBytes 4 v.rate
    ++ beBytes 2 v.projection ++ [flagByte v.armed, flagByte v.deficit]
    ++ optBytes 1 ((s.coveringId n).map (·.val))
    ++ (flagByte v.held.isSome :: optBytes 1 (v.held.map (·.code)))

/-- A list of 1 to 8 names is answered with one record of results for each, in the order named (R173). R189 names
the members of a slot and the motion list as the lists that a count byte precedes and does not say whether these 1
to 8 records form such a list; the model sends none, since the request gives their number (DESIGN CHOICE, unsafe:
assumption 21). -/
def listRequest (f : State → Fin 256 → List Byte) (args : List Byte) (s : State) : Answer :=
  if args.length = 0 ∨ 8 < args.length then .plain .badField s
  else { status := .ok, results := args.flatMap fun a => f s (slotOfByte a), state := s }

/-- READ_SLOT (R173). -/
def execReadSlot (s : State) : Host.Outcome State Fault Refusal :=
  .next (takeRequest codeReadSlot (fun _ => listRequest slotBytes) s)

/-- A channel's last raw reading: status code and signed 24-bit count, behind a presence byte (R189). -/
def rawBytes (r : Option Reading) : List Byte :=
  match r with
  | some r => 1 :: BitVec.ofNat 8 r.status.code :: beBytes 3 r.count.toNat
  | none => [0, 0, 0, 0, 0]

/-- The results of READ_CHANNEL for one channel (R22, R173): the channel record, then its routing and
source in the serving bank. -/
def chanBytes (s : State) (c : Chan) : List Byte :=
  let r := s.chan c
  let m := s.acting.map c
  rawBytes r.lastRaw ++ (flagByte r.lastGood.isSome :: beInt 4 (r.lastGood.getD 0))
    ++ [BitVec.ofNat 8 r.badStreak, flagByte r.rezero] ++ routeBytes m.route m.source false

/-- READ_CHANNEL (R173). -/
def execReadChannel (s : State) : Host.Outcome State Fault Refusal :=
  .next (takeRequest codeReadChannel (fun _ => listRequest chanBytes) s)

/-- A node record (R138). -/
def NodeRec.toBytes (r : NodeRec) : List Byte :=
  [r.state.code, BitVec.ofNat 8 r.streak] ++ beBytes 4 r.polls.toNat ++ beBytes 4 r.misses.toNat
    ++ beBytes 4 r.late.toNat

/-- READ_NODES carried out (R173). -/
def nodesRequest (_src : Source) (_args : List Byte) (s : State) : Answer :=
  { status := .ok, results := s.trunk.nodes.toList.flatMap NodeRec.toBytes, state := s }

/-- READ_NODES (R173). -/
def execReadNodes (s : State) : Host.Outcome State Fault Refusal :=
  .next (takeRequest codeReadNodes nodesRequest s)

/-! ## Counters, captures and SOFT_RESET (R174 to R176) -/

/-- The ten error counters in the order of Table 10-4. -/
def Counters.toList (c : Counters) : List Nat :=
  [c.gap, c.length, c.crc, c.framing, c.misdirected, c.requestDrop, c.forwardDrop, c.returnDrop,
    c.motionOverflow, c.queueOverflow]

/-- READ_COUNTERS carried out (R174). -/
def countersRequest (_src : Source) (_args : List Byte) (s : State) : Answer :=
  { status := .ok, results := s.mgmt.counters.toList.flatMap (beBytes 2), state := s }

/-- READ_COUNTERS (R174). -/
def execReadCounters (s : State) : Host.Outcome State Fault Refusal :=
  .next (takeRequest codeReadCounters countersRequest s)

/-- The counts that CLEAR_COUNTERS sets to 0: the ten counters and the node counts (R174). -/
def clearCounts (s : State) : State :=
  (s.modCounters fun _ => Counters.zero).modTrunk fun t =>
    { t with nodes := t.nodes.map fun r => { r with polls := 0, misses := 0, late := 0 } }

/-- CLEAR_COUNTERS carried out (R174). -/
def clearRequest (src : Source) (_args : List Byte) (s : State) : Answer :=
  if s.zones.admin src = false then .denied src codeClearCounters none s
  else .plain .ok (clearCounts s)

/-- CLEAR_COUNTERS (R174). -/
def execClearCounters (s : State) : Host.Outcome State Fault Refusal :=
  .next (takeRequest codeClearCounters clearRequest s)

/-- The trunk capture in results: empty or not, then its record, 0 when empty (R154, assumption 12). -/
def trunkCaptureBytes (c : Option TrunkCapture) : List Byte :=
  match c with
  | some c => [1, nodeByte c.node, 0] ++ beBytes 4 c.time.toNat
      ++ [flagByte c.overflow, BitVec.ofNat 8 c.overflowCount]
  | none => List.replicate 9 0

/-- The protection capture in results: empty or not, then its record, 0 when empty (R185, assumption 12). -/
def protCaptureBytes (c : Option ProtCapture) : List Byte :=
  match c with
  | some c => [1, BitVec.ofNat 8 c.source.val, c.code] ++ optBytes 1 (c.slot.map (·.val))
      ++ beBytes 4 c.time.toNat ++ [flagByte c.overflow, BitVec.ofNat 8 c.overflowCount]
  | none => List.replicate 11 0

/-- READ_FAULTS carried out (R175, R186). -/
def faultsRequest (src : Source) (_args : List Byte) (s : State) : Answer :=
  if s.zones.admin src = false then .denied src codeReadFaults none s
  else
    { status := .ok
      results := trunkCaptureBytes s.trunk.capture ++ protCaptureBytes s.zones.capture
      state := (s.modTrunk fun t => { t with capture := none }).modZones fun z =>
        { z with capture := none } }

/-- READ_FAULTS (R175). -/
def execReadFaults (s : State) : Host.Outcome State Fault Refusal :=
  .next (takeRequest codeReadFaults faultsRequest s)

/-- SOFT_RESET carried out (R176): the response is built and no further request is taken. -/
def softResetRequest (src : Source) (_args : List Byte) (s : State) : Answer :=
  if s.zones.admin src = false then .denied src codeSoftReset none s
  else .plain .ok (s.modMgmt fun m => { m with softReset := true })

/-- SOFT_RESET (R176). -/
def execSoftReset (s : State) : Host.Outcome State Fault Refusal :=
  .next (takeRequest codeSoftReset softResetRequest s)

end Sys2Proof.Machine
end

