-- ==== Sys2Proof/Machine/Time.lean ====
section
/-!
DEFINITION. The time path (section 1.3): the one-second tick, the minute tick and the parts of a minute
tick that have rows of their own.
-/

namespace Sys2Proof.Machine

/-- The elapsed minutes of every running forecast window increase by 1 (R98). -/
def countWindows (s : State) : State :=
  { s with slots := s.slots.map fun v => { v with elapsed := v.elapsed.map (· + 1) } }

/-- What the blocks that keep minute deadlines do at a minute tick, in the given order (R19, R88, R104).
In `separately` the due expiries, repeats and window closes are left to their own rows. -/
def minuteWork (order : TickOrder) (s : State) : State :=
  let b := s.acting
  match order with
  | .sessionsFirst => slotsPass b (sessionsPass b s)
  | .slotsFirst => sessionsPass b (slotsPass b s)
  | .separately => countWindows s

/-- The minutes counter increases by 1 and the tick is offered to the blocks (R19). -/
def minuteTick (order : TickOrder) (s : State) : State :=
  minuteWork order { s with time := { s.time with minutes := s.time.minutes + 1 } }

/-- This second's tick makes the minute phase reach 60, so that it is also a minute tick (R18). -/
def State.minuteDue (s : State) : Bool := 60 ≤ s.time.phase + 1

/-- The seconds counter and the minute phase at a one-second tick (R18). -/
def secondTick (s : State) : State :=
  { s with time := { s.time with
      seconds := s.time.seconds + 1
      phase := if s.minuteDue then 0 else s.time.phase + 1 } }

/-- A one-second tick, and the minute tick it may also be (R18, R19). -/
def tick (order : TickOrder) (s : State) : State :=
  if s.minuteDue then minuteTick order (secondTick s) else secondTick s

/-- ONE_SECOND_TICK (R18). -/
def execOneSecondTick (order : TickOrder) (s : State) : Host.Outcome State Fault Refusal :=
  .next (tick order s)

/-- MINUTE_TICK (R19): the one-second tick at which the minute phase wraps. At any other phase no minute
tick occurs (assumption 6). -/
def execMinuteTick (order : TickOrder) (s : State) : Host.Outcome State Fault Refusal :=
  .next (if s.minuteDue then tick order s else s)

/-- REPEAT (R85, R86): the repeat test of one slot at the present minutes count, and its repeat. -/
def execRepeatAlert (n : Slot) (s : State) : Host.Outcome State Fault Refusal :=
  .next (repeatStep s.acting n s)

/-- SESSION_EXPIRY (R116): the deadline test of one record at the present minutes count, and its expiry. -/
def execSessionExpiry (id : SessionId) (s : State) : Host.Outcome State Fault Refusal :=
  .next (expireOne s.acting id s)

/-- A slot's forecast window has run its L minutes (R98, R99). -/
def windowDone (b : Bank) (n : Slot) (s : State) : Bool :=
  (s.slot n).elapsed.any fun e => (b.cfg n).forecast.toNat ≤ e

/-- FORECAST_WINDOW_CLOSE (R99): the close of one slot's forecast window whose elapsed minutes have
reached L. -/
def execForecastWindowClose (n : Slot) (s : State) : Host.Outcome State Fault Refusal :=
  .next (if windowDone s.acting n s then windowClose s.acting n s else s)

end Sys2Proof.Machine
end

