-- ==== Sys2Proof/Machine/Dispatch.lean ====
section
/-!
DEFINITION. The effect of each command on everything but the queue of waiting commands: one arm for each
row of spec/opcode_table.json, in the table's order.
-/

namespace Sys2Proof.Machine

def exec (i : Instr) (s : State) : Host.Outcome State Fault Refusal :=
  match i with
  | .powerOn strap => Sys2Proof.Machine.execPowerOn strap s
  | .pinReset strap => Sys2Proof.Machine.execPinReset strap s
  | .oneSecondTick order => Sys2Proof.Machine.execOneSecondTick order s
  | .minuteTick order => Sys2Proof.Machine.execMinuteTick order s
  | .repeatAlert n => Sys2Proof.Machine.execRepeatAlert n s
  | .sessionExpiry id => Sys2Proof.Machine.execSessionExpiry id s
  | .forecastWindowClose n => Sys2Proof.Machine.execForecastWindowClose n s
  | .alinkFrameReceived bytes => Sys2Proof.Machine.execAlinkFrameReceived bytes s
  | .alinkGapAbandon => Sys2Proof.Machine.execAlinkGapAbandon s
  | .loadRecords => Sys2Proof.Machine.execLoadRecords s
  | .readRecords => Sys2Proof.Machine.execReadRecords s
  | .copyBank => Sys2Proof.Machine.execCopyBank s
  | .switchBank => Sys2Proof.Machine.execSwitchBank s
  | .cancelSwitch => Sys2Proof.Machine.execCancelSwitch s
  | .openRestock => Sys2Proof.Machine.execOpenRestock s
  | .closeRestock => Sys2Proof.Machine.execCloseRestock s
  | .ackSlot => Sys2Proof.Machine.execAckSlot s
  | .setAlertMask => Sys2Proof.Machine.execSetAlertMask s
  | .setZone => Sys2Proof.Machine.execSetZone s
  | .setSourceRights => Sys2Proof.Machine.execSetSourceRights s
  | .lockZones => Sys2Proof.Machine.execLockZones s
  | .readStatus => Sys2Proof.Machine.execReadStatus s
  | .readSlot => Sys2Proof.Machine.execReadSlot s
  | .readChannel => Sys2Proof.Machine.execReadChannel s
  | .readNodes => Sys2Proof.Machine.execReadNodes s
  | .readCounters => Sys2Proof.Machine.execReadCounters s
  | .clearCounters => Sys2Proof.Machine.execClearCounters s
  | .readFaults => Sys2Proof.Machine.execReadFaults s
  | .softReset => Sys2Proof.Machine.execSoftReset s
  | .undefinedRequest => Sys2Proof.Machine.execUndefinedRequest s
  | .resetPoint => Sys2Proof.Machine.execResetPoint s
  | .responsePartGrant => Sys2Proof.Machine.execResponsePartGrant s
  | .returnFrameGrant => Sys2Proof.Machine.execReturnFrameGrant s
  | .alertGrant => Sys2Proof.Machine.execAlertGrant s
  | .uplinkFrameDone => Sys2Proof.Machine.execUplinkFrameDone s
  | .trunkFrameSent => Sys2Proof.Machine.execTrunkFrameSent s
  | .trunkFrameReceived bytes => Sys2Proof.Machine.execTrunkFrameReceived bytes s
  | .trunkGapAbandon => Sys2Proof.Machine.execTrunkGapAbandon s
  | .replyWindowClose => Sys2Proof.Machine.execReplyWindowClose s
  | .listenPeriodEnd => Sys2Proof.Machine.execListenPeriodEnd s
  | .huntByteReceived b => Sys2Proof.Machine.execHuntByteReceived b s
  | .trunkFrameAbandoned b => Sys2Proof.Machine.execTrunkFrameAbandoned b s

end Sys2Proof.Machine
end

