-- ==== Sys2Proof/Safety.lean ====
section
/-!
DEFINITION. The terms claims are stated in: what it is for the management unit to take and answer a
request, what it is to change one part of the state only, and the invariants of each block. A safe run of
the LV2460 is one in which no step stops and every invariant below holds between events.
-/

namespace Sys2Proof.Machine

/-! ## Bytes on the lines -/

/-- Bytes as they are received without a framing error. -/
def rxBytes (bs : List Byte) : List RxByte := bs.map fun b => ⟨b, true⟩

/-! ## Requests -/

/-- The management unit takes the frame `f` now, and it is a request of source `src` with this code and
these arguments that passes the header, code and shape checks (R162, R166). -/
def Taking (s : State) (f : Frame) (src : Source) (code : Byte) (args : List Byte) : Prop :=
  s.mgmt.response = none ∧ s.mgmt.softReset = false ∧ s.mgmt.requests.head? = some f
    ∧ screen f.payload = .good src code args

/-- `s` with the request frame `f` taken from the head of the queue and this response in hand. -/
def State.answered (s : State) (f : Frame) (code : Byte) (status : Status) (results : List Byte) : State :=
  { s with mgmt := { s.mgmt with
      requests := s.mgmt.requests.tail
      response := some ⟨f.tag, responseParts code status results⟩ } }

/-- `t` holds the answer to `f`, which has left the request queue of `s`. -/
def Answered (s t : State) (f : Frame) (code : Byte) (status : Status) (results : List Byte) : Prop :=
  t.mgmt.requests = s.mgmt.requests.tail
    ∧ t.mgmt.response = some ⟨f.tag, responseParts code status results⟩

/-! ## Frames -/

/-- The live records of a slot before and after agree in every field but the two that belong to the alert
queue. -/
def SameButHeld (v w : SlotLive) : Prop := { v with held := w.held } = w

/-- Nothing outside the alert queue changed: of the whole state only the queue, the held-back flags and the
queue overflow count may differ. -/
def OnlyAlerts (s t : State) : Prop :=
  t = { s with
    alerts := t.alerts
    slots := t.slots
    mgmt := { s.mgmt with
      counters := { s.mgmt.counters with queueOverflow := t.mgmt.counters.queueOverflow } } }
  ∧ ∀ n, SameButHeld (s.slot n) (t.slot n)

/-- Nothing outside one slot's live record and the alert queue changed. -/
def OnlySlot (n : Slot) (s t : State) : Prop :=
  t = { s with
    alerts := t.alerts
    slots := t.slots
    mgmt := { s.mgmt with
      counters := { s.mgmt.counters with queueOverflow := t.mgmt.counters.queueOverflow } } }
  ∧ ∀ m, m ≠ n → SameButHeld (s.slot m) (t.slot m)

/-- The live record of a slot after the close of the session that covered it, its held-back flag aside
(R117, R118). -/
def SlotLive.closed (v : SlotLive) (cfg : SlotCfg) (minute : Word) : SlotLive :=
  if cfg.enabled && v.stock.short then
    { v with
      acked := false
      deadline := some (minute + BitVec.ofNat 32 cfg.interval.toNat)
      deficit := false }
  else { v with deficit := false }

/-- The alert that the re-evaluation of a slot raises at the close of a session: the standing alert of a short
slot, RECOVERED for a slot that was short at the opening and is STOCKED (R79, R118). -/
def SlotLive.closeAlert (v : SlotLive) (cfg : SlotCfg) : Option AlertKind :=
  if cfg.enabled = false then none
  else match v.stock with
    | .unknown => none
    | .stocked => if v.deficit && cfg.notify then some .recovered else none
    | .low => if cfg.mode = .off then none else some .low
    | .empty => if cfg.emptyAlert then some .empty else if cfg.mode = .off then none else some .low

/-- The entry that a stock alert of this kind joins the queue as: reason NONE, the slot's confirmed count, its
article code and the seconds count of now, in the tier of the kind (R81, R118, R124). -/
def stockEntry (b : Bank) (n : Slot) (k : AlertKind) (s : State) : AlertEntry :=
  ⟨⟨.slot n, k, .noReason, (s.slot n).count, none, none, some (b.cfg n).article, s.now⟩,
    k = .empty || (k = .low && (b.cfg n).urgentClass)⟩

/-- The entry that a slot held back with kind `h` is offered again with: its details as they stand now (R124,
R131). -/
def heldEntry (b : Bank) (n : Slot) (h : AlertKind) (s : State) : AlertEntry :=
  let v := s.slot n
  let reason := match h with
    | .fault => (match v.fault with
      | none => .noReason
      | some .nodeSilent => .nodeSilent
      | some .badSamples => .badSamples)
    | .inspect => (match v.inspection with
      | none => .noReason
      | some .motion => .motion
      | some .ambiguous => .ambiguous
      | some .addition => .addition)
    | .lapsed | .recovered | .forecast | .low | .empty => .noReason
  ⟨⟨.slot n, h, reason, v.count, none, if h = .forecast then some v.projection else none,
    some (b.cfg n).article, s.now⟩, h = .fault || h = .empty || (h = .low && (b.cfg n).urgentClass)⟩

/-- The slot alerts in `t` after the close of the session record `r` in `s`, `ahead` alerts having been raised
before the re-evaluation (R117, R118, R129): what a covered slot raises is queued where the queue has room for all
that the close raises and holds nothing of the slot, and a slot that raises nothing has no entry that was neither
there nor held back. -/
def ClosedSlotAlerts (r : Session) (ahead : Nat) (s t : State) : Prop :=
  let raised := fun n : Slot => if r.covers n then (s.slot n).closeAlert (s.acting.cfg n) else none
  (∀ n k, raised n = some k → maskHas s.mgmt.mask k = false → s.entry (.slot n) = none →
    (s.slot n).held = none → s.alerts.length + ahead + allSlots.countP (fun m => (raised m).isSome) ≤ 64 →
    t.entry (.slot n) = some (stockEntry s.acting n k s))
  ∧ ∀ n, raised n = none → s.entry (.slot n) = none → (s.slot n).held = none → t.entry (.slot n) = none

/-- What the end of a poll does before the arbiter's next decision (R12, R147, R148). `v` is the state once the
accepted reply or the miss has been handled, which leaves the table store, the roster pointer, the interleave count
and the forward queue as they are. A motion poll moves neither; a roster poll counts for the interleave, up to 15,
and advances the roster pointer, where a turn may complete a pending switch. -/
def PollEnded (motion : Bool) (s t : State) : Prop :=
  ∃ v u, t = arbitrate u
    ∧ v.store = s.store
    ∧ v.trunk = { s.trunk with
        txn := none, nodes := v.trunk.nodes, rx := v.trunk.rx, capture := v.trunk.capture
        motionList := v.trunk.motionList, motionPtr := v.trunk.motionPtr }
    ∧ (motion = true → u = v)
    ∧ (motion = false →
      u = (advanceRoster { v with trunk := { v.trunk with interleave := min 15 (s.trunk.interleave + 1) } }).1
      ∧ u.trunk.interleave = min 15 (s.trunk.interleave + 1)
      ∧ (s.trunk.rosterPtr + 1 < s.acting.length → u.trunk.rosterPtr = s.trunk.rosterPtr + 1)
      ∧ (s.trunk.rosterPtr + 1 = s.acting.length → u.trunk.rosterPtr = 0))

/-! ## Records that a write refuses -/

/-- What refuses a slot configuration record with BAD_FIELD (R2, R190, Table 1-6): a reserved bit or byte that is
not zero; in a field that the mask names, a mode code of 3, a U, W or B of 0, a tare above 1,048,575, a tolerance
above 127, a W of 63 or an A above 15; or a record that would stand enabled with a U, W or B of 0. -/
def SlotRecordRefused (mask : Word) (r : List Byte) (old : SlotCfg) : Prop :=
  let named := fun k : Nat => mask.getLsbD k = true
  let b := fun i : Nat => (byteAt r i).toNat
  (64 ≤ b 0 ∨ 64 ≤ b 11 ∨ 64 ≤ b 12 ∨ b 26 ≠ 0)
  ∨ (named 10 ∧ b 0 / 16 % 4 = 3) ∨ (named 2 ∧ fieldAt r 5 2 = 0) ∨ (named 3 ∧ 1048575 < fieldAt r 7 3)
  ∨ (named 4 ∧ 127 < b 10) ∨ (named 5 ∧ (b 11 % 64 = 0 ∨ b 11 % 64 = 63)) ∨ (named 7 ∧ fieldAt r 13 2 = 0)
  ∨ (named 16 ∧ 15 < b 21)
  ∨ ((if named 0 then b 0 % 2 = 1 else old.enabled = true)
    ∧ ((if named 2 then fieldAt r 5 2 else old.unitWeight.toNat) = 0
      ∨ (if named 5 then b 11 % 64 else old.width.toNat) = 0
      ∨ (if named 7 then fieldAt r 13 2 else old.band.toNat) = 0))

/-- What refuses a channel map record with BAD_FIELD (R4, R190, Table 1-7): a reserved bit or byte that is not
zero; in a field that the mask names, a slot number beside the mark UNROUTED, a source code of 3 or a gain of 0;
or a record that would stand routed with a gain of 0. -/
def ChanRecordRefused (mask : Word) (r : List Byte) (old : ChanMap) : Prop :=
  let named := fun k : Nat => mask.getLsbD k = true
  let b := fun i : Nat => (byteAt r i).toNat
  (16 ≤ b 1 ∨ b 7 ≠ 0)
  ∨ (named 0 ∧ b 1 % 2 = 0 ∧ b 0 ≠ 0) ∨ (named 1 ∧ b 1 / 2 % 4 = 3) ∨ (named 4 ∧ fieldAt r 5 2 = 0)
  ∨ ((if named 0 then b 1 % 2 = 1 else old.route.isSome = true)
    ∧ (if named 4 then fieldAt r 5 2 else old.gain.toNat) = 0)

/-- What refuses a roster entry with BAD_FIELD (R6, R190): a reserved byte that is not zero, or an entry of 33 or
above that the mask names. -/
def EntryRefused (mask : Word) (r : List Byte) : Prop :=
  byteAt r 1 ≠ 0 ∨ byteAt r 2 ≠ 0 ∨ byteAt r 3 ≠ 0 ∨ (mask.getLsbD 0 = true ∧ 32 < (byteAt r 0).toNat)

/-- What refuses a roster header with BAD_FIELD (R6, R190): a reserved byte that is not zero, or, in a field that
the mask names, an interleave above 15 or a timeout of 0. -/
def HeaderRefused (mask : Word) (r : List Byte) : Prop :=
  byteAt r 3 ≠ 0 ∨ (mask.getLsbD 2 = true ∧ 15 < (byteAt r 1).toNat) ∨ (mask.getLsbD 3 = true ∧ byteAt r 2 = 0)

/-- A node carries a member of a slot (R151). -/
def Bank.carries (b : Bank) (n : Slot) (node : Node) : Prop := ∃ p ∈ b.members n, nodeOf p.1 = node

/-- A node carries a LIVE member of a slot (R31, R38, R47, R151). -/
def Bank.carriesLive (b : Bank) (n : Slot) (node : Node) : Prop := ∃ p ∈ b.liveMembers n, nodeOf p.1 = node

/-! ## Invariants of the blocks -/

/-- The alert queue holds at most 64 entries, no two with one key, urgent before normal; LAPSED is keyed by
a session and every other kind by a slot (R123). -/
def QueueOk (s : State) : Prop :=
  s.alerts.length ≤ Config.alertCapacity
  ∧ (s.alerts.map (·.alert.key)).Nodup
  ∧ s.alerts.Pairwise (fun a b => b.urgent → a.urgent)
  ∧ (∀ e ∈ s.alerts, e.alert.kind = .lapsed ↔ ∃ id, e.alert.key = .session id)

/-- A held-back slot has no queued entry, its held kind is one of the six slot kinds, and no place is free
while a slot is held back (R125, R131). -/
def HeldOk (s : State) : Prop :=
  ∀ n k, (s.slot n).held = some k →
    k ≠ .lapsed ∧ s.entry (.slot n) = none ∧ s.alerts.length = Config.alertCapacity

/-- No queued entry and no held kind is suppressed (R131, R132). -/
def MaskOk (s : State) : Prop :=
  (∀ e ∈ s.alerts, maskHas s.mgmt.mask e.alert.kind = false)
  ∧ ∀ n k, (s.slot n).held = some k → maskHas s.mgmt.mask k = false

/-- The alert queue between events (R123, R125, R131). -/
def AlertsOk (s : State) : Prop := QueueOk s ∧ HeldOk s ∧ MaskOk s

/-- A slot has a confirmed count exactly when it is not UNKNOWN, and a repeat deadline exactly when it is
LOW or EMPTY (R56, R74). -/
def CountOk (v : SlotLive) : Prop :=
  (v.count.isSome ↔ v.stock ≠ .unknown) ∧ (v.deadline.isSome ↔ v.stock.short)

/-- A faulted slot has no window, no fresh position and no motion (R36, R54); the motion-reported flag is
set only in motion (R46, R49). -/
def MotionOk (v : SlotLive) : Prop :=
  (v.fault.isSome → v.window = none ∧ v.fresh = 0 ∧ v.motion = none)
  ∧ (v.motionReported → v.motion.isSome)

/-- The ranges of Tables 4-2 and 6-2. -/
def RangesOk (v : SlotLive) : Prop :=
  (∀ c ∈ v.count, c ≤ Config.countMax) ∧ v.removedSum ≤ Config.removedMax
  ∧ (∀ r ∈ v.rate, r ≤ Config.removedMax) ∧ v.projection ≤ Config.noProjection

/-- A slot in UNKNOWN holds the forecast part at its reset values (R106). -/
def UnknownOk (v : SlotLive) : Prop := v.stock = .unknown → v.resetForecast = v

/-- Every slot live record between events. -/
def SlotsOk (s : State) : Prop :=
  ∀ n, CountOk (s.slot n) ∧ MotionOk (s.slot n) ∧ RangesOk (s.slot n) ∧ UnknownOk (s.slot n)

/-- The stock state agrees with the count and with the serving bank's reorder and clear points (R75), and a
slot that is disabled in the serving bank is UNKNOWN, unfaulted, out of motion and without samples (R33,
R53, R94). -/
def StockOk (s : State) : Prop :=
  ∀ n, (∀ c, (s.slot n).count = some c →
      ((s.slot n).stock = .empty → c = 0)
      ∧ ((s.slot n).stock = .low → 1 ≤ c ∧ c ≤ (s.acting.cfg n).clear.toNat)
      ∧ ((s.slot n).stock = .stocked → (s.acting.cfg n).reorder.toNat < c))
    ∧ ((s.acting.cfg n).enabled = false →
      (s.slot n).stock = .unknown ∧ (s.slot n).fault = none ∧ (s.slot n).motion = none
        ∧ (s.slot n).window = none ∧ (s.slot n).fresh = 0)

/-- A slot configuration record as any write leaves it, or at its reset values (R2, R3). -/
def CfgOk (c : SlotCfg) : Prop :=
  (c.width ≠ 0 → c.threshold.toNat ≤ c.width.toNat) ∧ c.reorder.toNat ≤ c.clear.toNat
  ∧ (c.enabled → c.unitWeight ≠ 0 ∧ c.width ≠ 0 ∧ c.band ≠ 0 ∧ c.threshold ≠ 0 ∧ c.interval ≠ 0
    ∧ c.ambiguity ≠ 0 ∧ c.motionLimit ≠ 0)
  ∧ c.tare.toNat ≤ Config.tareMax ∧ c.tolerance.toNat ≤ 127

/-- A bank between events: its records as writes leave them, four members at most for every slot, a gain
wherever a channel is routed, and a roster header in range (R2 to R6). -/
def BankOk (b : Bank) : Prop :=
  (∀ n, CfgOk (b.cfg n)) ∧ (∀ n, (b.members n).length ≤ Config.memberLimit)
  ∧ (∀ c, (b.map c).route.isSome → (b.map c).gain ≠ 0)
  ∧ b.header.length.toNat ≤ 128 ∧ b.header.interleave.toNat ≤ 15 ∧ b.header.timeout ≠ 0

/-- The table store between events: both banks, and a requested bank only beside a serving bank that it is
not (R9, R10). -/
def StoreOk (s : State) : Prop :=
  BankOk s.store.bankA ∧ BankOk s.store.bankB
  ∧ ∀ r, s.store.requested = some r → s.store.serving = some r.other

/-- No slot is covered by two open sessions, and no session's range is empty (R109, R110). -/
def SessionsOk (s : State) : Prop :=
  (∀ i r, s.session i = some r → r.first ≤ r.last)
  ∧ ∀ i j r q n, s.session i = some r → s.session j = some q → r.covers n → q.covers n → i = j

/-- The motion list holds up to 8 nodes, none twice, and its pointer stands at one of them, or at 0 while
the list is empty (R149, R150). -/
def MotionListOk (t : Trunk) : Prop :=
  t.motionList.length ≤ Config.motionCapacity ∧ t.motionList.Nodup
  ∧ (t.motionPtr < t.motionList.length ∨ (t.motionList = [] ∧ t.motionPtr = 0))

/-- The ranges of the trunk controller's items (Table 9-1, R138, R154), and no transaction while it listens
(R156). -/
def TrunkOk (s : State) : Prop :=
  MotionListOk s.trunk ∧ s.trunk.forwards.length ≤ Config.queueCapacity ∧ s.trunk.interleave ≤ 15
  ∧ s.trunk.rosterPtr ≤ 127 ∧ (∀ c ∈ s.trunk.capture, c.overflowCount ≤ Config.overflowMax)
  ∧ (∀ n, (s.node n).streak ≤ 3 ∧ ((s.node n).state = .alive → (s.node n).streak < 3))
  ∧ (s.trunk.listening.isSome → s.trunk.txn = none)

/-- Every error counter is at most 65,535 (R174). -/
def CountersOk (c : Counters) : Prop :=
  c.gap ≤ Config.counterMax ∧ c.length ≤ Config.counterMax ∧ c.crc ≤ Config.counterMax
  ∧ c.framing ≤ Config.counterMax ∧ c.misdirected ≤ Config.counterMax
  ∧ c.requestDrop ≤ Config.counterMax ∧ c.forwardDrop ≤ Config.counterMax
  ∧ c.returnDrop ≤ Config.counterMax ∧ c.motionOverflow ≤ Config.counterMax
  ∧ c.queueOverflow ≤ Config.counterMax

/-- The aisle link, the management unit and the protection capture between events: queues of at most 4 frames,
counters in range, a minute phase below 60 (R18, R162, R163, R174, R185). -/
def LinkOk (s : State) : Prop :=
  s.mgmt.requests.length ≤ Config.queueCapacity ∧ s.link.returns.length ≤ Config.queueCapacity
  ∧ (∀ c ∈ s.zones.capture, c.overflowCount ≤ Config.overflowMax)
  ∧ CountersOk s.mgmt.counters ∧ s.time.phase < 60

/-- A safe step: the machine goes on, and no command is without a meaning. -/
def SafeStep (s : State) : Prop := ∃ t, step s = .next t

end Sys2Proof.Machine
end

