-- ==== Sys2Proof/Certificates/Slice0/Obligations.lean ====
section
/-!
DEFINITION. The statements for the provers. Each names the rules of spec/ it rests on. `exec c s = .next t`
says that the command completes; an equation for `t` is also its frame, since it fixes every field of the
state that it does not name. Where a statement describes an operation (a fault test, an arming decision) it
is about the one definition that every command uses for it.
-/

open Sys2Proof Sys2Proof.Machine

/-! ## The machine -/

/-- A step takes the front command of the queue and carries it out on the state with the queue's rest. With
no command waiting the block idles (assumption 2). -/
def Obligations.StepRunsTheFrontCommand : Prop :=
  (∀ (c : Instr) (rest : List Instr) (s : State), s.pending = c :: rest →
    step s = exec c { s with pending := rest })
  ∧ (∀ (c : Instr) (s : State), step (s.withCommand c) = exec c s)
  ∧ ∀ s : State, s.pending = [] → step s = .next s

/-! ## Resets (section 0.9, R8, R177) -/

/-- POWER_ON and PIN_RESET set every block to its reset values, whatever the state; they differ in the
cause alone. -/
def Obligations.PowerOnAndPinResetSetEveryBlock : Prop :=
  ∀ (strap : BitVec 3) (s : State), ∃ t u,
    exec (.powerOn strap) s = .next t ∧ exec (.pinReset strap) s = .next u
    ∧ t.mgmt.cause = .power ∧ u.mgmt.cause = .pin
    ∧ ∀ v ∈ [t, u],
      v.strap = strap ∧ v.pending = s.pending ∧ v.time = ⟨0, 0, 0⟩
      ∧ v.store.serving = none ∧ v.store.requested = none
      ∧ (∀ b ∈ [v.store.bankA, v.store.bankB],
          (∀ n, (b.cfg n).enabled = false ∧ (b.cfg n).mode = .off ∧ (b.cfg n).toBytes = List.replicate 27 0)
          ∧ (∀ c, b.map c = ⟨none, .live, false, 0, 0⟩)
          ∧ (∀ p, b.entry p = none) ∧ b.header = ⟨0, 0, 4⟩)
      ∧ (∀ c, v.chan c = ⟨none, none, 0, false⟩)
      ∧ (∀ n, v.slot n = {
          fresh := 0, fault := none, window := none, motion := none, motionReported := false
          lastSettled := none, count := none, streak := 0, inspection := none
          removed := 0, putBack := 0, replenished := 0, stock := .unknown, acked := false, deadline := none
          removedSum := 0, elapsed := none, rate := none, projection := 65535, armed := true
          deficit := false, held := none })
      ∧ (∀ id, v.session id = none) ∧ v.alerts = []
      ∧ (∀ z ∈ v.zones.zones.toList, z.first = 255 ∧ z.last = 0 ∧ ∀ g ∈ z.grants.toList, g = ⟨false, false, false⟩)
      ∧ (∀ r ∈ v.zones.rights.toList, r = ⟨true, true, ⟨true, true, true⟩⟩)
      ∧ v.zones.locked = false ∧ v.zones.capture = none
      ∧ v.trunk = {
          nodes := Vector.replicate 32 ⟨.unseen, 0, 0, 0, 0⟩, txn := none, listening := none
          rx := ⟨.hunt, 0, 0, none, 0, [], none⟩, pollTag := 0, forwards := [], lastKind := .poll
          rosterPtr := 0, rosterEmpty := false, interleave := 0, motionList := [], motionPtr := 0
          capture := none }
      ∧ v.link = { rx := ⟨.hunt, 0, 0, none, 0, [], none⟩, returns := [], uplink := none, alertSeq := 0 }
      ∧ v.mgmt.requests = [] ∧ v.mgmt.response = none ∧ v.mgmt.softReset = false
      ∧ v.mgmt.counters = ⟨0, 0, 0, 0, 0, 0, 0, 0, 0, 0⟩ ∧ v.mgmt.mask = 0

/-- The last byte of a SOFT_RESET response resets the part, whichever of its two rows brings it: banks,
serving bank, time base, zones, rights, lock, protection capture, error counters and mask are kept, a
pending switch is dropped, and the trunk listens for one reply timeout. The trunk's assembler is kept
(assumption 4). -/
def Obligations.ResetPointSetsSoftResetValues : Prop :=
  ∀ (s : State) (f : Frame), s.link.uplink = some ⟨f, true⟩ →
    ∃ t, exec .resetPoint s = .next t ∧ exec .uplinkFrameDone s = .next t ∧ t = { s with
      store := { s.store with requested := none }
      chans := Vector.replicate 256 ⟨none, none, 0, false⟩
      slots := Vector.replicate 256 SlotLive.reset
      sessions := Vector.replicate 8 none
      alerts := []
      trunk := { Trunk.reset with rx := s.trunk.rx, listening := some (match s.store.serving with
        | some b => (s.store.bank b).header.timeout.toNat
        | none => 4) }
      link := AisleLink.reset
      mgmt := ⟨[], none, false, .soft, s.mgmt.counters, s.mgmt.mask⟩ }

/-! ## Time (section 1.3) -/

/-- A one-second tick that ends no minute counts the second and the phase and nothing else, across the wrap of
the seconds counter (R18); a minute tick does not occur then (assumption 6). A deadline up to 2^31 - 1 minutes
past is reached, and one ahead by up to 2^31 minutes is not, across the wrap of the minutes counter (R20). -/
def Obligations.TimeBaseCountsSecondsAndComparesDeadlines : Prop :=
  (∀ (o : TickOrder) (s : State), s.time.phase < 59 →
     exec (.oneSecondTick o) s
       = .next { s with time := ⟨s.time.seconds + 1, s.time.minutes, s.time.phase + 1⟩ }
     ∧ exec (.minuteTick o) s = .next s)
  ∧ (∀ (now : Word) (k : Nat),
     (k < 2 ^ 31 → reached now (now - BitVec.ofNat 32 k) = true)
     ∧ (0 < k ∧ k ≤ 2 ^ 31 → reached now (now + BitVec.ofNat 32 k) = false))

/-- The sixtieth second is the minute tick, by either of its rows. It counts the minute, expires exactly the
sessions whose deadline it reaches, advances every running forecast window by one minute and closes the windows it
completes (all but the counting left to later rows in the order `separately`: assumptions 6 and 7). A slot that no
expiring session covers repeats exactly when it passes the repeat test: its deadline advances past the present
minute and, in a tick without an expiry and with room in the queue for what it raises, its standing alert is queued
where the queue held nothing of the slot (R85, R86); failing the test it keeps deadline and acknowledged flag. A
slot of an expiring session is left as its re-evaluation leaves it. The tick touches no bank, channel, zone, node,
queue of frames, stock state or count. That a tick finds a deadline reached which a CLOSE_RESTOCK in the minute
before has set with an interval of 1 is assumption 23. -/
def Obligations.MinuteTickCountsAndTakesWhatFallsDue : Prop :=
  ∀ (o : TickOrder) (s : State), s.time.phase = 59 → ∃ t,
    exec (.minuteTick o) s = .next t ∧ exec (.oneSecondTick o) s = .next t
    ∧ t.time = ⟨s.time.seconds + 1, s.time.minutes + 1, 0⟩
    ∧ t = { s with
        time := t.time
        slots := t.slots
        sessions := t.sessions
        alerts := t.alerts
        mgmt := { s.mgmt with
          counters := { s.mgmt.counters with queueOverflow := t.mgmt.counters.queueOverflow } } }
    ∧ (∀ n, t.slot n = { s.slot n with
        acked := (t.slot n).acked, deadline := (t.slot n).deadline, removedSum := (t.slot n).removedSum
        elapsed := (t.slot n).elapsed, rate := (t.slot n).rate, projection := (t.slot n).projection
        armed := (t.slot n).armed, deficit := (t.slot n).deficit, held := (t.slot n).held })
    ∧ (∀ id r, s.session id = some r → t.session id =
        if o ≠ .separately ∧ reached (s.time.minutes + 1) r.deadline then none else some r)
    ∧ (∀ id, s.session id = none → t.session id = none)
    ∧ (∀ n, (s.slot n).elapsed = none → (t.slot n).elapsed = none)
    ∧ (∀ n e, (s.slot n).elapsed = some e →
        if o ≠ .separately ∧ (s.acting.cfg n).forecast.toNat ≤ e + 1 then
          (t.slot n).elapsed = some 0 ∧ (t.slot n).rate = some (s.slot n).removedSum
            ∧ (t.slot n).removedSum = 0
        else (t.slot n).elapsed = some (e + 1) ∧ (t.slot n).rate = (s.slot n).rate
            ∧ (t.slot n).removedSum = (s.slot n).removedSum)
    ∧ let minute := s.time.minutes + 1
      let cfg := s.acting.cfg
      let expires := fun r : Session => o ≠ .separately && reached minute r.deadline
      let expiring := fun n : Slot => ∃ id r, s.session id = some r ∧ expires r = true ∧ r.covers n = true
      let due := fun n : Slot => o ≠ .separately && (cfg n).enabled && (cfg n).mode = .repeating
        && (s.slot n).stock.short && !(s.slot n).acked && !s.covered n && (s.slot n).fault.isNone
        && (s.slot n).deadline.any (reached minute)
      let closes := fun n : Slot => o ≠ .separately
        && (s.slot n).elapsed.any fun e => (cfg n).forecast.toNat ≤ e + 1
      (∀ n, ¬ expiring n → (t.slot n).acked = (s.slot n).acked ∧ (t.slot n).deficit = (s.slot n).deficit)
      ∧ (∀ n, ¬ expiring n → due n = false → (t.slot n).deadline = (s.slot n).deadline)
      ∧ (∀ n d, ¬ expiring n → due n = true → (s.slot n).deadline = some d → (cfg n).interval ≠ 0 → ∃ k,
          (t.slot n).deadline = some (d + BitVec.ofNat 32 (k * (cfg n).interval.toNat))
          ∧ reached minute (d + BitVec.ofNat 32 (k * (cfg n).interval.toNat)) = false
          ∧ ∀ j < k, reached minute (d + BitVec.ofNat 32 (j * (cfg n).interval.toNat)) = true)
      ∧ (∀ n, expiring n → (cfg n).interval ≠ 0 →
          let v := (s.slot n).closed (cfg n) minute
          (t.slot n).acked = v.acked ∧ (t.slot n).deadline = v.deadline ∧ (t.slot n).deficit = v.deficit)
      ∧ (o = .separately → t.alerts = s.alerts)
      ∧ ∀ n k, (∀ id r, s.session id = some r → expires r = false) → due n = true →
          k = (if (s.slot n).stock = .empty ∧ (cfg n).emptyAlert = true then AlertKind.empty else .low) →
          maskHas s.mgmt.mask k = false → s.entry (.slot n) = none → (s.slot n).held = none →
          s.alerts.length + allSlots.countP (fun m => due m || closes m) ≤ 64 →
          t.entry (.slot n) = some (stockEntry s.acting n k t)

/-- REPEAT: a slot that passes the repeat test raises its standing alert with its current count and advances its
deadline by the least number of intervals that takes it past the present minute (R85, R86). A slot that is
acknowledged, covered or faulted is skipped and its deadline does not move (R87). That the row stands for one
slot's part of a minute tick is assumption 7. -/
def Obligations.RepeatRaisesAndAdvancesItsDeadline : Prop :=
  ∀ (n : Slot) (s : State),
    (∀ d, (s.acting.cfg n).enabled = true → (s.acting.cfg n).mode = .repeating →
      (s.slot n).stock.short = true → (s.slot n).acked = false → s.covered n = false →
      (s.slot n).fault = none → (s.slot n).deadline = some d → reached s.minute d = true →
      (s.acting.cfg n).interval ≠ 0 →
      ∃ t k, exec (.repeatAlert n) s = .next t ∧ OnlySlot n s t
        ∧ t.slot n = { s.slot n with
            deadline := some (d + BitVec.ofNat 32 (k * (s.acting.cfg n).interval.toNat))
            held := (t.slot n).held }
        ∧ reached s.minute (d + BitVec.ofNat 32 (k * (s.acting.cfg n).interval.toNat)) = false
        ∧ (∀ j < k, reached s.minute (d + BitVec.ofNat 32 (j * (s.acting.cfg n).interval.toNat)) = true)
        ∧ (∀ kind, kind = (if (s.slot n).stock = .empty ∧ (s.acting.cfg n).emptyAlert = true
              then AlertKind.empty else AlertKind.low) →
            maskHas s.mgmt.mask kind = false → s.entry (.slot n) = none → (s.slot n).held = none →
            s.alerts.length < 64 →
            t.entry (.slot n) = some ⟨⟨.slot n, kind, .noReason, (s.slot n).count, none, none,
              some (s.acting.cfg n).article, s.now⟩,
              kind = .empty || (s.acting.cfg n).urgentClass⟩))
    ∧ ((s.slot n).acked = true ∨ s.covered n = true ∨ (s.slot n).fault.isSome = true →
        exec (.repeatAlert n) s = .next s)

/-- SESSION_EXPIRY: an OPEN record whose deadline is reached becomes FREE, its slots are re-evaluated and LAPSED
is raised with its units added; a record not due, and a FREE one, is left as it is (R116 to R118, R121). The
re-evaluation raises the standing alert of each short slot of the range, and RECOVERED for each STOCKED slot with
the deficit-at-open flag and notify-recovered set; it is queued where the queue has room for all that the close
raises and holds nothing of the slot, and no other slot comes into the queue that was neither there nor held back.
That the row stands for one record's part of a minute tick is assumption 7. -/
def Obligations.SessionExpiryClosesAndReportsLapsed : Prop :=
  ∀ (id : SessionId) (s : State),
    (∀ r, s.session id = some r → reached s.minute r.deadline = true → ∃ t,
      exec (.sessionExpiry id) s = .next t ∧ t.session id = none
      ∧ t = { s with
          sessions := s.sessions.set id none
          slots := t.slots
          alerts := t.alerts
          mgmt := { s.mgmt with
            counters := { s.mgmt.counters with queueOverflow := t.mgmt.counters.queueOverflow } } }
      ∧ (∀ n, SameButHeld (if r.covers n then (s.slot n).closed (s.acting.cfg n) s.minute else s.slot n)
          (t.slot n))
      ∧ (maskHas s.mgmt.mask .lapsed = false → s.entry (.session id) = none → s.alerts.length < 64 →
          t.entry (.session id) = some ⟨⟨.session id, .lapsed, .noReason, none, some r.added, none, none,
            s.now⟩, false⟩)
      ∧ ClosedSlotAlerts r 1 s t)
    ∧ (∀ r, s.session id = some r → reached s.minute r.deadline = false →
        exec (.sessionExpiry id) s = .next s)
    ∧ (s.session id = none → exec (.sessionExpiry id) s = .next s)

/-- FORECAST_WINDOW_CLOSE: a window whose elapsed minutes have reached L closes: the last rate takes the removed
sum, a new window starts, the projection is recomputed and the arming decision is made (R99 to R101). A window
that has not run its minutes stays open. That the row stands for one slot's part of a minute tick is assumption
7. -/
def Obligations.ForecastWindowCloseTakesTheRate : Prop :=
  ∀ (n : Slot) (s : State) (e : Nat), (s.slot n).elapsed = some e →
    ((s.acting.cfg n).forecast.toNat ≤ e → ∃ t p,
      exec (.forecastWindowClose n) s = .next t ∧ OnlySlot n s t
      ∧ p = projectionOf (s.slot n).count (s.acting.cfg n).forecast.toNat (some (s.slot n).removedSum)
      ∧ t.slot n = { s.slot n with
          rate := some (s.slot n).removedSum, removedSum := 0, elapsed := some 0, projection := p
          armed := if (s.acting.cfg n).lead.toNat < p then true
            else (s.slot n).armed && !((s.slot n).stock = .stocked && 0 < (s.slot n).removedSum
              && !s.covered n && (s.slot n).fault.isNone)
          held := (t.slot n).held })
    ∧ (e < (s.acting.cfg n).forecast.toNat → exec (.forecastWindowClose n) s = .next s)

/-! ## The aisle link, receiving (section 10.1) -/

/-- A frame sent as Table 12-1 lays it out, four preamble bytes to CRC, is assembled into that same frame on
either line, from HUNT with any preamble count: the aisle link dispatches it and the trunk judges it. -/
def Obligations.WireFramesAreAssembledOnBothLines : Prop :=
  ∀ (f : Frame) (s : State), f.payload.length ≤ 240 → f.addr ≠ 0xD5 →
    (f.crcOk = true → s.link.rx.state = .hunt →
      exec (.alinkFrameReceived (rxBytes f.wire)) s
        = .next (dispatch f { s with link := { s.link with rx := Assembler.reset } }))
    ∧ (s.trunk.rx.state = .hunt →
      exec (.trunkFrameReceived (rxBytes f.wire)) s
        = .next (trunkFrame f { s with trunk := { s.trunk with rx := Assembler.reset } }))

/-- Dispatch of a complete frame (Table 10-2, R161, R162): an own-station request joins the request queue, a
node command joins the forward queue (while a transaction is in flight nothing else happens), each is dropped
and counted when the queue holds 4 frames, and every other frame is counted as misdirected. -/
def Obligations.DispatchPlacesEachFrameByTable102 : Prop :=
  ∀ (f : Frame) (s : State), f.payload.length ≤ 240 → f.addr ≠ 0xD5 → f.crcOk = true →
    s.link.rx = Assembler.reset →
    let own := f.station = 56 + s.strap.toNat ∧ f.towardAisle = false ∧ f.zeroBit = false ∧ f.kindCode = 8
    let cmd := f.station ≤ 32 ∧ f.towardAisle = false ∧ f.zeroBit = false ∧ f.kindCode = 3
    let after := exec (.alinkFrameReceived (rxBytes f.wire)) s
    (own → s.mgmt.requests.length < 4 →
      after = .next { s with mgmt := { s.mgmt with requests := s.mgmt.requests ++ [f] } })
    ∧ (own → 4 ≤ s.mgmt.requests.length →
      after = .next { s with mgmt := { s.mgmt with counters := { s.mgmt.counters with
        requestDrop := min 65535 (s.mgmt.counters.requestDrop + 1) } } })
    ∧ (cmd → s.trunk.forwards.length < 4 → s.trunk.txn.isSome = true →
      after = .next { s with trunk := { s.trunk with forwards := s.trunk.forwards ++ [f] } })
    ∧ (cmd → 4 ≤ s.trunk.forwards.length →
      after = .next { s with mgmt := { s.mgmt with counters := { s.mgmt.counters with
        forwardDrop := min 65535 (s.mgmt.counters.forwardDrop + 1) } } })
    ∧ (¬ own → ¬ cmd →
      after = .next { s with mgmt := { s.mgmt with counters := { s.mgmt.counters with
        misdirected := min 65535 (s.mgmt.counters.misdirected + 1) } } })

/-- HUNT (R158): what one byte, or a gap of more than 2 ms, does to the assembler there. -/
def Obligations.HuntCountsThePreambleAndStartsAFrame : Prop :=
  (∀ strap s, ∃ t, exec (.powerOn strap) s = .next t ∧ t.link.rx.state = .hunt ∧ t.link.rx.preamble = 0)
  ∧ (∀ (b : RxByte) (s : State), s.link.rx.state = .hunt → s.link.rx.preamble ≤ 4 →
    ∃ t, exec (.huntByteReceived b) s = .next t ∧ exec (.alinkFrameReceived [b]) s = .next t
    ∧ t = { s with
        link := { s.link with rx := t.link.rx }
        mgmt := { s.mgmt with counters := { s.mgmt.counters with
          framing := if b.stop then s.mgmt.counters.framing
            else min 65535 (s.mgmt.counters.framing + 1) } } }
    ∧ (b.stop = false → t.link.rx.state = .hunt ∧ t.link.rx.preamble = 0)
    ∧ (b.stop = true → b.data = 0xD5 →
        t.link.rx.state = .hunt ∧ t.link.rx.preamble = min 4 (s.link.rx.preamble + 1))
    ∧ (b.stop = true → b.data ≠ 0xD5 → s.link.rx.preamble < 4 →
        t.link.rx.state = .hunt ∧ t.link.rx.preamble = 0)
    ∧ (b.stop = true → b.data ≠ 0xD5 → s.link.rx.preamble = 4 →
        t.link.rx.state = .header ∧ t.link.rx.addr = b.data ∧ t.link.rx.kind = none))
  ∧ (∀ (s : State), s.link.rx.state = .hunt →
    exec .alinkGapAbandon s = .next { s with link := { s.link with rx := Assembler.reset } })
  ∧ ∀ (station : Nat) (aisle : Bool), addrByte station aisle ≠ 0xD5

/-- The four causes that abandon a frame in assembly (R160): the frame is discarded whole, the assembler returns to
HUNT with a preamble count of 0, the matching counter increases, and nothing else changes. That a byte which lacks
its stop bit counts as a framing error alone, also where it is a length above 240 or ends a CRC that differs, is
assumption 24. -/
def Obligations.AbandonedFramesAreCountedAndDiscarded : Prop :=
  ∀ (s : State), s.link.rx.state ≠ .hunt →
    let home := { s.link with rx := Assembler.reset }
    exec .alinkGapAbandon s = .next { s with
      link := home
      mgmt := { s.mgmt with counters := { s.mgmt.counters with
        gap := min 65535 (s.mgmt.counters.gap + 1) } } }
    ∧ (∀ d, exec (.alinkFrameReceived [⟨d, false⟩]) s = .next { s with
      link := home
      mgmt := { s.mgmt with counters := { s.mgmt.counters with
        framing := min 65535 (s.mgmt.counters.framing + 1) } } })
    ∧ (∀ d : Byte, s.link.rx.state = .header → s.link.rx.kind.isSome = true → 240 < d.toNat →
      exec (.alinkFrameReceived [⟨d, true⟩]) s = .next { s with
        link := home
        mgmt := { s.mgmt with counters := { s.mgmt.counters with
          length := min 65535 (s.mgmt.counters.length + 1) } } })
    ∧ ∀ k hi d, s.link.rx.state = .check → s.link.rx.kind = some k → s.link.rx.crcHigh = some hi →
      beNat [hi, d] ≠ (crc16 (crcCovered s.link.rx.addr k s.link.rx.payload)).toNat →
      exec (.alinkFrameReceived [⟨d, true⟩]) s = .next { s with
        link := home
        mgmt := { s.mgmt with counters := { s.mgmt.counters with
          crc := min 65535 (s.mgmt.counters.crc + 1) } } }

/-! ## The uplink (section 10.2) -/

/-- The uplink (R163 to R165). The next response part leaves before anything else, in a MGMT_RESP frame that bears
the own station address toward the aisle and the request's tag; the response is given up with its last part.
Then the head of the return queue leaves unchanged. No grant is made to a producer that has nothing to send, and
none of the three while a frame is in transmission; the last byte of a granted frame leaves the uplink idle. That
the row of a grant that is not due leaves the state as it is, is assumption 5. -/
def Obligations.UplinkGrantsFollowTheirOrder : Prop :=
  (∀ (s : State), s.link.uplink = none →
     (∀ tag p ps, s.mgmt.response = some ⟨tag, p :: ps⟩ →
       exec .responsePartGrant s = .next { s with
         link := { s.link with uplink := some ⟨⟨addrByte (56 + s.strap.toNat) true, kindByte tag 9, p,
           crc16 (crcCovered (addrByte (56 + s.strap.toNat) true) (kindByte tag 9) p)⟩, s.mgmt.softReset⟩ }
         mgmt := { s.mgmt with response := if ps = [] then none else some ⟨tag, ps⟩ } }
       ∧ exec .returnFrameGrant s = .next s ∧ exec .alertGrant s = .next s)
     ∧ (s.mgmt.response = none → exec .responsePartGrant s = .next s))
  ∧ (∀ (s : State) (f : Frame) (rest : List Frame), s.link.uplink = none → s.mgmt.response = none →
     s.link.returns = f :: rest →
     exec .returnFrameGrant s = .next { s with
       link := { s.link with returns := rest, uplink := some ⟨f, false⟩ } }
     ∧ exec .alertGrant s = .next s)
  ∧ (∀ s : State, s.link.returns = [] → exec .returnFrameGrant s = .next s)
  ∧ (∀ s : State, s.alerts = [] → exec .alertGrant s = .next s)
  ∧ (∀ s : State, s.link.uplink.isSome = true → exec .responsePartGrant s = .next s
     ∧ exec .returnFrameGrant s = .next s ∧ exec .alertGrant s = .next s)
  ∧ (∀ (s : State) (f : Frame), s.link.uplink = some ⟨f, false⟩ →
     exec .uplinkFrameDone s = .next { s with link := { s.link with uplink := none } })

/-- A grant to the alert queue (R134, R165, R191): the first entries, up to four, leave in one ALERT frame that
bears the alert sequence, which then advances; with no slot held back the queue keeps the rest in order and nothing
else changes. With slots held back, one is offered again for each entry that left, the lowest slot numbers first:
each joins the tail of its tier with its present details, behind the frame already formed (R131). An entry is sent
as its 16 bytes of Table 12-6, a count and a projection in two bytes each. -/
def Obligations.AlertGrantSendsTheFirstFour : Prop :=
  (∀ (s : State), s.link.uplink = none → s.mgmt.response = none → s.link.returns = [] → s.alerts ≠ [] →
    ∃ f : Frame, f.addr = addrByte (56 + s.strap.toNat) true ∧ f.kind = kindByte s.link.alertSeq 10
      ∧ f.payload = BitVec.ofNat 8 (min 4 s.alerts.length) :: (s.alerts.take 4).flatMap AlertEntry.toBytes
      ∧ f.payload.length = 1 + 16 * min 4 s.alerts.length ∧ f.crcOk = true
      ∧ ((∀ n, (s.slot n).held = none) → exec .alertGrant s = .next { s with
          alerts := s.alerts.drop 4
          link := { s.link with uplink := some ⟨f, false⟩, alertSeq := s.link.alertSeq + 1 } })
      ∧ (QueueOk s →
        let back := (allSlots.filter fun n => (s.slot n).held.isSome).take (min 4 s.alerts.length)
        let again := back.filterMap fun n => (s.slot n).held.map fun h => heldEntry s.acting n h s
        let rest := s.alerts.drop 4
        ∃ t, exec .alertGrant s = .next t
          ∧ t = { s with
              alerts := rest.filter (·.urgent) ++ again.filter (·.urgent)
                ++ rest.filter (!·.urgent) ++ again.filter (!·.urgent)
              slots := t.slots
              link := { s.link with uplink := some ⟨f, false⟩, alertSeq := s.link.alertSeq + 1 } }
          ∧ ∀ n, t.slot n = if n ∈ back then { s.slot n with held := none } else s.slot n))
  ∧ ∀ e : AlertEntry, (∀ c ∈ e.alert.count, c ≤ 65535) → (∀ x ∈ e.alert.projection, x ≤ 65535) →
    let a := e.alert
    let x := e.toBytes
    let kind := match a.kind with
      | .lapsed => 1 | .recovered => 2 | .forecast => 3 | .inspect => 4 | .low => 5 | .empty => 6 | .fault => 7
    let key := match a.key with
      | .slot n => n.val
      | .session id => id.val
    let reason := match a.reason with
      | .noReason => 0 | .motion => 1 | .ambiguous => 2 | .addition => 3 | .nodeSilent => 4 | .badSamples => 5
    x.length = 16 ∧ fieldAt x 0 1 = kind ∧ fieldAt x 1 1 = key
    ∧ fieldAt x 2 1 = (if e.urgent = true then 128 else 0) + (if a.article.isSome = true then 4 else 0)
      + (if a.projection.isSome = true then 2 else 0) + (if a.count.isSome = true then 1 else 0)
    ∧ fieldAt x 3 1 = reason ∧ fieldAt x 4 2 = a.count.getD 0 ∧ fieldAt x 6 2 = a.projection.getD 0
    ∧ fieldAt x 8 4 = ((if a.kind = .lapsed then a.added else a.article).getD 0).toNat
    ∧ fieldAt x 12 4 = a.time.toNat

/-! ## The shelf trunk (chapter 9) -/

/-- The last byte of a frame being sent opens the reply window (R142); after a broadcast the transaction is
over with no window (R144), here with nothing left to send. -/
def Obligations.TrunkFrameSentOpensTheWindow : Prop :=
  ∀ (s : State) (k : TxnKind) (f : Frame) (timeout : Nat), s.trunk.txn = some ⟨k, f, true, timeout⟩ →
    ((∀ z, k ≠ .forward none z) →
      exec .trunkFrameSent s = .next { s with trunk := { s.trunk with txn := some ⟨k, f, false, timeout⟩ } })
    ∧ (∀ z, k = .forward none z → s.trunk.forwards = [] → s.trunk.listening = none →
        s.store.serving = none →
        exec .trunkFrameSent s = .next { s with trunk := { s.trunk with txn := none } })

/-- What does not end a reply window: a stale SAMPLE in a poll's window is discarded and counted as late at its
node (R143); a frame that is no reply, and an abandoned frame, in a forward's window is discarded (R142, R144). A
frame completed while no window is open is discarded, and counted as late at its node exactly when it has a good
CRC and bears a node address in the direction toward the aisle (R156); an abandoned one is discarded (R142). A byte
abandons a frame by a missing stop bit, or as a length byte above 240. -/
def Obligations.ReplyWindowOutlastsStaleAndAbandonedFrames : Prop :=
  (∀ (s : State) (f : Frame) (node : Node) (tag : BitVec 4) (motion : Bool) (p : Frame) (timeout : Nat),
     s.trunk.rx = Assembler.reset → s.trunk.txn = some ⟨.poll node tag motion, p, false, timeout⟩ →
     f.crcOk = true → f.payload.length = 32 → f.station = node.val + 1 → f.towardAisle = true →
     f.kindCode = 2 → f.addr ≠ 0xD5 → f.tag ≠ tag →
     exec (.trunkFrameReceived (rxBytes f.wire)) s = .next { s with
       trunk := { s.trunk with
         nodes := s.trunk.nodes.set node { s.trunk.nodes[node] with late := s.trunk.nodes[node].late + 1 } } })
  ∧ (∀ (s : State) (d : Byte), s.trunk.rx.state ≠ .hunt →
     (s.trunk.txn = none ∨ ∃ node z f b timeout, s.trunk.txn = some ⟨.forward node z, f, b, timeout⟩) →
     exec .trunkGapAbandon s = .next { s with trunk := { s.trunk with rx := Assembler.reset } }
     ∧ exec (.trunkFrameAbandoned ⟨d, false⟩) s
       = .next { s with trunk := { s.trunk with rx := Assembler.reset } }
     ∧ (s.trunk.rx.state = .header → s.trunk.rx.kind.isSome = true → 240 < d.toNat →
       exec (.trunkFrameAbandoned ⟨d, true⟩) s
         = .next { s with trunk := { s.trunk with rx := Assembler.reset } }))
  ∧ ∀ (s : State) (f : Frame), s.trunk.rx = Assembler.reset → f.addr ≠ 0xD5 → f.payload.length ≤ 240 →
     (∀ node z p timeout, s.trunk.txn = some ⟨.forward (some node) z, p, false, timeout⟩ →
       ¬ (f.crcOk = true ∧ f.station = node.val + 1 ∧ f.towardAisle = true) →
       exec (.trunkFrameReceived (rxBytes f.wire)) s = .next s)
     ∧ ((s.trunk.txn = none ∨ ∃ k p timeout, s.trunk.txn = some ⟨k, p, true, timeout⟩) →
       (∀ node : Node, f.crcOk = true → f.station = node.val + 1 → f.towardAisle = true →
         exec (.trunkFrameReceived (rxBytes f.wire)) s = .next { s with
           trunk := { s.trunk with
             nodes := s.trunk.nodes.set node
               { s.trunk.nodes[node] with late := s.trunk.nodes[node].late + 1 } } })
       ∧ (¬ (f.crcOk = true ∧ 1 ≤ f.station ∧ f.station ≤ 32 ∧ f.towardAisle = true) →
         exec (.trunkFrameReceived (rxBytes f.wire)) s = .next s))

/-- An accepted SAMPLE makes its node ALIVE with a miss streak of 0, whatever its state (R139), and each of the
node's channels keeps the reading and is converted, rejected or left by Table R24 (R23 to R27). Then, where no
forward waits and no switch is pending, so that the arbiter's next decision touches no slot: a slot that is
disabled or has no LIVE member on the node keeps its record. Any other slot takes its fault test (R31, R34). A slot
found or left faulted takes no position; a fault that clears or starts leaves the mask empty. A slot that is and
stays unfaulted has the positions of its converted LIVE members set, and once the position of every LIVE member is,
the sum over its members, a ZERO member giving 0, is its slot sample, the mask is empty again, and the settle
window takes the sample: it stays open, or an unsettled close empties it and starts or keeps motion, or a settled
close empties it, ends motion, stores the settled weight and counts it (R30 to R32, R45, R46, R49). The poll then
ends: one of the roster counts for the interleave and advances the roster pointer, one of the motion list moves
neither, and the arbiter decides (R147, R148). -/
def Obligations.AcceptedSampleUpdatesNodeAndChannels : Prop :=
  ∀ (s : State) (f : Frame) (node : Node) (motion : Bool) (p : Frame) (timeout : Nat),
    s.trunk.rx = Assembler.reset → s.trunk.txn = some ⟨.poll node f.tag motion, p, false, timeout⟩ →
    f.crcOk = true → f.payload.length = 32 → f.station = node.val + 1 → f.towardAisle = true →
    f.kindCode = 2 → f.addr ≠ 0xD5 →
    ∃ t, exec (.trunkFrameReceived (rxBytes f.wire)) s = .next t
      ∧ PollEnded motion s t
      ∧ (t.node node).state = .alive ∧ (t.node node).streak = 0
      ∧ (t.node node).misses = (s.node node).misses ∧ (t.node node).late = (s.node node).late
      ∧ (∀ c, nodeOf c ≠ node → { s.chan c with rezero := (t.chan c).rezero } = t.chan c)
      ∧ (∀ k : Fin 8, ∀ c, c = chanOf node k → ∀ x : Reading,
        x = ⟨.ofByte (byteAt f.payload (4 * k.val)), BitVec.ofNat 24 (fieldAt f.payload (4 * k.val + 1) 3)⟩ →
        (t.chan c).lastRaw = some x
        ∧ (if (s.acting.map c).route.isSome = true ∧ (s.acting.map c).source = .live ∧ (s.chan c).rezero = false
          then (if x.status = .ok
            then (t.chan c).lastGood = some (toGrams (s.acting.map c) x.count) ∧ (t.chan c).badStreak = 0
            else (t.chan c).lastGood = (s.chan c).lastGood
              ∧ (t.chan c).badStreak = min 3 ((s.chan c).badStreak + 1))
          else (t.chan c).lastGood = (s.chan c).lastGood ∧ (t.chan c).badStreak = (s.chan c).badStreak))
      ∧ (s.trunk.forwards = [] → s.store.requested = none →
        let b := s.acting
        (∀ n, (b.cfg n).enabled = false ∨ ¬ b.carriesLive n node → SameButHeld (s.slot n) (t.slot n))
        ∧ ∀ n, (b.cfg n).enabled = true → b.carriesLive n node →
          let old := s.slot n
          let new := t.slot n
          let silent := ∃ p ∈ b.liveMembers n, (t.node (nodeOf p.1)).state = .silent
          let bad := ∃ p ∈ b.liveMembers n, (t.chan p.1).badStreak = 3
          let clear := ∀ p ∈ b.liveMembers n, (t.node (nodeOf p.1)).state = .alive ∧ (t.chan p.1).badStreak = 0
          let converted := fun c : Chan => nodeOf c = node ∧ byteAt f.payload (4 * (c.val % 8)) = 0
            ∧ (s.chan c).rezero = false
          let set := fun i : Nat => old.fresh.getLsbD i = true
            ∨ ∃ p, (b.members n)[i]? = some p ∧ p.2.source = .live ∧ converted p.1
          let complete := ∀ i p, (b.members n)[i]? = some p → p.2.source = .live → set i
          (old.fault.isSome = true → clear → SameButHeld { old with fault := none, fresh := 0 } new)
          ∧ (old.fault.isSome = true → ¬ clear → SameButHeld old new)
          ∧ (old.fault = none → silent ∨ bad → SameButHeld { old with
              fault := some (if silent then .nodeSilent else .badSamples)
              fresh := 0, window := none, motion := none, motionReported := false } new)
          ∧ (old.fault = none → ¬ (silent ∨ bad) →
            (¬ complete → SameButHeld { old with fresh := new.fresh } new
              ∧ ∀ i < 4, (new.fresh.getLsbD i = true ↔ set i))
            ∧ (complete → (b.members n).length ≤ 4 →
              let x := ((b.members n).map fun p =>
                if p.2.source = .zero then 0 else (t.chan p.1).lastGood.getD 0).sum
              let w := Window.take old.window (b.cfg n).band.toNat x
              let verdict := w.verdict (b.cfg n).width.toNat (b.cfg n).threshold.toNat
              (verdict = .stays → SameButHeld { old with fresh := 0, window := some w } new)
              ∧ (verdict = .unsettled → SameButHeld { old with
                  fresh := 0, window := none, motion := some (old.motion.getD s.now)
                  motionReported := new.motionReported, inspection := new.inspection } new)
              ∧ (verdict = .settled → new.fresh = 0 ∧ new.window = none ∧ new.motion = none
                ∧ new.motionReported = false ∧ new.lastSettled = some w.settledWeight ∧ new.fault = none
                ∧ new.count = if accepted (b.cfg n) w.settledWeight
                  then some (countOf (b.cfg n) w.settledWeight) else old.count))))

/-- A poll whose window closes, or whose reply is abandoned by a gap or by a byte (one without its stop bit, or a
length byte above 240), or that receives a frame in its window that is bad (no SAMPLE of the polled node with a
good CRC), ends as a miss: the misses count and the streak rise, and the third miss in a row makes an UNSEEN or
ALIVE node SILENT, recorded in an empty trunk capture or counted in a full one (R140, R142, R143, R155). Then,
where no forward waits and no switch is pending, so that the arbiter's next decision touches no slot: at the change
to SILENT each enabled, unfaulted slot with a LIVE member on the node becomes faulted with NODE_SILENT, and its
FAULT is queued where the queue has room for all of them and holds nothing of the slot (R35, R38); every other slot
keeps its record, and without that change no slot and no alert changes at all. A missed poll of the roster counts
for the interleave and advances the roster pointer like an answered one, and one of the motion list moves neither
(R147, R148). -/
def Obligations.MissedPollCountsAndSilencesTheNode : Prop :=
  ∀ (s : State) (node : Node) (tag : BitVec 4) (motion : Bool) (p : Frame) (timeout : Nat) (c : Instr),
    s.trunk.txn = some ⟨.poll node tag motion, p, false, timeout⟩ → (s.node node).streak ≤ 3 →
    (c = .replyWindowClose
      ∨ (s.trunk.rx.state ≠ .hunt ∧ (c = .trunkGapAbandon ∨ ∃ d, c = .trunkFrameAbandoned ⟨d, false⟩))
      ∨ (s.trunk.rx.state = .header ∧ s.trunk.rx.kind.isSome = true
        ∧ ∃ d : Byte, 240 < d.toNat ∧ c = .trunkFrameAbandoned ⟨d, true⟩)
      ∨ ∃ f : Frame, c = .trunkFrameReceived (rxBytes f.wire) ∧ s.trunk.rx = Assembler.reset ∧ f.addr ≠ 0xD5
        ∧ f.payload.length ≤ 240 ∧ ¬ (f.crcOk = true ∧ f.payload.length = 32 ∧ f.station = node.val + 1
          ∧ f.towardAisle = true ∧ f.kindCode = 2)) →
    ∃ t, exec c s = .next t
      ∧ PollEnded motion s t
      ∧ (t.node node).misses = (s.node node).misses + 1
      ∧ (t.node node).streak = min 3 ((s.node node).streak + 1)
      ∧ (if 2 ≤ (s.node node).streak ∧ (s.node node).state ≠ .silent then
          (t.node node).state = .silent ∧ t.trunk.capture = some (match s.trunk.capture with
            | none => ⟨node, s.now, false, 0⟩
            | some r => { r with overflow := true, overflowCount := min 255 (r.overflowCount + 1) })
        else (t.node node).state = (s.node node).state ∧ t.trunk.capture = s.trunk.capture)
      ∧ (∀ m, m ≠ node → { s.node m with polls := (t.node m).polls } = t.node m)
      ∧ (∀ m, { s.chan m with rezero := (t.chan m).rezero } = t.chan m)
      ∧ (s.trunk.forwards = [] → s.store.requested = none →
        let b := s.acting
        let lost := 2 ≤ (s.node node).streak ∧ (s.node node).state ≠ .silent
        let hit := fun n : Slot => (b.cfg n).enabled && (s.slot n).fault.isNone
          && (b.liveMembers n).any fun p => nodeOf p.1 = node
        (¬ lost → t.slots = s.slots ∧ t.alerts = s.alerts)
        ∧ (lost → ∀ n,
          (hit n = true → SameButHeld { s.slot n with
            fault := some .nodeSilent, fresh := 0, window := none, motion := none, motionReported := false }
            (t.slot n))
          ∧ (hit n = false → SameButHeld (s.slot n) (t.slot n))
          ∧ (hit n = true → maskHas s.mgmt.mask .fault = false → s.entry (.slot n) = none →
            (s.slot n).held = none → s.alerts.length + allSlots.countP hit ≤ 64 →
            t.entry (.slot n) = some ⟨⟨.slot n, .fault, .nodeSilent, (s.slot n).count, none, none,
              some (b.cfg n).article, s.now⟩, true⟩)))

/-- A forward to a node, other than a ZERO, ends at its first good reply, which joins the return queue unchanged,
or at the close of its window, which puts FWD_FAIL there with the node's address, the frame's tag and its first
payload byte; a full return queue drops either and counts it. The transaction is then over and the arbiter decides;
with no forward waiting and no switch pending that decision touches no channel, no slot and no alert. No field of a
node record changes but the polls that the next decision sends (R138, R144, R145). -/
def Obligations.ForwardEndsWithReplyOrFailure : Prop :=
  ∀ (s : State) (node : Node) (f r : Frame) (timeout : Nat), s.trunk.rx = Assembler.reset →
    s.trunk.txn = some ⟨.forward (some node) none, f, false, timeout⟩ →
    r.crcOk = true → r.payload.length ≤ 240 → r.addr ≠ 0xD5 → r.station = node.val + 1 →
    r.towardAisle = true →
    ∀ p ∈ [(Instr.trunkFrameReceived (rxBytes r.wire), r),
        (Instr.replyWindowClose, ⟨addrByte (node.val + 1) true, kindByte f.tag 5, f.payload.take 1,
          crc16 (crcCovered (addrByte (node.val + 1) true) (kindByte f.tag 5) (f.payload.take 1))⟩)],
      let ended := { s with trunk := { s.trunk with txn := none } }
      let u := if s.link.returns.length < 4
        then { ended with link := { s.link with returns := s.link.returns ++ [p.2] } }
        else { ended with mgmt := { s.mgmt with counters := { s.mgmt.counters with
          returnDrop := min 65535 (s.mgmt.counters.returnDrop + 1) } } }
      ∃ t, exec p.1 s = .next t ∧ t = arbitrate u
        ∧ (s.trunk.forwards = [] → s.store.requested = none →
          t.chans = s.chans ∧ t.slots = s.slots ∧ t.alerts = s.alerts)
        ∧ (if s.link.returns.length < 4 then
            t.link = { s.link with returns := s.link.returns ++ [p.2] }
            ∧ t.mgmt.counters.returnDrop = s.mgmt.counters.returnDrop
          else t.link = s.link
            ∧ t.mgmt.counters.returnDrop = min 65535 (s.mgmt.counters.returnDrop + 1))
        ∧ ∀ n, { s.node n with polls := (t.node n).polls } = t.node n

/-- The end of the listening period after a SOFT_RESET brings the arbiter's first decision: with a roster entry
at the pointer no frame to forward and no node on the motion list, a POLL with the poll tag starts to that
entry's node (R141, R146, R147, R156). -/
def Obligations.ListenPeriodEndStartsTheFirstPoll : Prop :=
  ∀ (s : State) (k : Nat) (node : Node), s.trunk.listening = some k → s.trunk.txn = none →
    s.trunk.forwards = [] → s.trunk.motionList = [] → s.trunk.rosterEmpty = false →
    s.store.serving.isSome = true → 0 < s.acting.length →
    s.acting.entry s.trunk.rosterPtr = some node →
    exec .listenPeriodEnd s = .next { s with
      trunk := { s.trunk with
        listening := none
        txn := some ⟨.poll node s.trunk.pollTag false,
          ⟨addrByte (node.val + 1) false, kindByte s.trunk.pollTag 1, [],
            crc16 (crcCovered (addrByte (node.val + 1) false) (kindByte s.trunk.pollTag 1) [])⟩,
          true, s.acting.header.timeout.toNat⟩
        pollTag := s.trunk.pollTag + 1
        lastKind := .poll
        nodes := s.trunk.nodes.set node { s.trunk.nodes[node] with polls := s.trunk.nodes[node].polls + 1 } } }

/-- The arbiter (R146). Whenever it has decided on an idle trunk, no work it could start is left waiting: it is in
flight, or no frame waits to be forwarded and no poll is available; its bound on decisions in one event is enough.
Neither side starves the other: after a forward an available motion poll or node entry is polled even if frames
wait, and after a poll a waiting frame is forwarded even if a poll is available. A poll that starts bears the poll
tag, which advances, and raises the node's polls count. A motion poll also sets the interleave count to 0 and moves
the motion list pointer to the next position in use, or to 0 after the last; neither kind moves the roster pointer
as it starts (R141, R147, R150). -/
def Obligations.ArbiterLeavesNoWorkAndAlternates : Prop :=
  (∀ s : State, s.trunk.txn = none → s.trunk.listening = none → MotionListOk s.trunk →
     (arbitrate s).trunk.txn.isSome = true
       ∨ ((arbitrate s).trunk.forwards = [] ∧ pollAvailable (arbitrate s) = false))
  ∧ (∀ (s : State) (f : Frame) (rest : List Frame), s.trunk.txn = none → s.trunk.listening = none →
     s.trunk.forwards = f :: rest → s.store.serving.isSome = true →
     let due := s.acting.header.interleave ≠ 0 ∧ s.trunk.motionList ≠ []
       ∧ s.acting.header.interleave.toNat ≤ s.trunk.interleave
     let started := fun (node : Node) (motion : Bool) => { s with
       trunk := { s.trunk with
         txn := some ⟨.poll node s.trunk.pollTag motion,
           ⟨addrByte (node.val + 1) false, kindByte s.trunk.pollTag 1, [],
             crc16 (crcCovered (addrByte (node.val + 1) false) (kindByte s.trunk.pollTag 1) [])⟩,
           true, s.acting.header.timeout.toNat⟩
         pollTag := s.trunk.pollTag + 1
         lastKind := .poll
         interleave := if motion then 0 else s.trunk.interleave
         motionPtr := if motion then
           (if s.trunk.motionPtr + 1 < s.trunk.motionList.length then s.trunk.motionPtr + 1 else 0)
           else s.trunk.motionPtr
         nodes := s.trunk.nodes.set node { s.trunk.nodes[node] with polls := s.trunk.nodes[node].polls + 1 } } }
     (s.trunk.lastKind = .poll →
       ∃ k, (arbitrate s).trunk.txn = some k ∧ k.frame = f ∧ (arbitrate s).trunk.forwards = rest
         ∧ (arbitrate s).trunk.lastKind = .forward)
     ∧ (∀ node, s.trunk.lastKind = .forward → due → s.trunk.motionList[s.trunk.motionPtr]? = some node →
       arbitrate s = started node true)
     ∧ (∀ node, s.trunk.lastKind = .forward → ¬ due → 0 < s.acting.length →
       s.trunk.rosterEmpty = false → s.acting.entry s.trunk.rosterPtr = some node →
       arbitrate s = started node false))

/-- A forwarded ZERO. It is recognised when it is sent (R152): the rezero-in-flight flag of each channel of the node
that its mask names and the serving bank routes is set, and the fresh mask and settle window of each slot they
are routed to are emptied; motion, counts and alerts are kept; a broadcast, a shorter payload and another command
touch no channel and no slot (R28, R51). When its transaction ends (R153) the flags of its set are cleared; after
an OK reply each slot of the set is UNKNOWN with its counting, forecast and motion parts reset and no alert queued
or held, keeping its fault, its totals and its deficit-at-open flag (R72, R133); after any other end no slot
changes. The transaction ends with the first frame from its node toward the aisle with a good CRC, which is an OK
reply exactly when it is a NODE_RESP of at least two payload bytes whose status byte is 0x00 (R144, R153, R188),
or with the close of its window: the reply, or FWD_FAIL, goes to the return queue or is dropped and counted
(R145), then the end above is made, then the arbiter decides; with no forward waiting and no switch pending that
decision touches no channel and no slot. -/
def Obligations.ZeroFlagsItsChannelsAndResetsItsSlotsAfterOk : Prop :=
  (∀ (s : State) (f : Frame) (rest : List Frame),
     let t := startForward f rest s
     let named := fun c : Chan => ∃ node, f.node = some node ∧ nodeOf c = node ∧ 2 ≤ f.payload.length
       ∧ byteAt f.payload 0 = 0x21 ∧ (byteAt f.payload 1).getLsbD (c.val % 8) = true
       ∧ (s.acting.map c).route.isSome = true
     t = { s with chans := t.chans, slots := t.slots, trunk := t.trunk }
     ∧ t.trunk.txn.any (fun x => x.frame = f ∧ x.sending = true) = true
     ∧ t.trunk.forwards = rest ∧ t.trunk.lastKind = .forward
     ∧ (∀ c, named c → t.chan c = { s.chan c with rezero := true })
     ∧ (∀ c, ¬ named c → t.chan c = s.chan c)
     ∧ (∀ n, (∃ c, named c ∧ (s.acting.map c).route = some n) →
         t.slot n = { s.slot n with fresh := 0, window := none })
     ∧ ∀ n, (¬ ∃ c, named c ∧ (s.acting.map c).route = some n) → t.slot n = s.slot n)
  ∧ (∀ (s : State) (z : RezeroSet),
     (zeroEnd z false s = { s with chans := (zeroEnd z false s).chans })
     ∧ (∀ ok c, (zeroEnd z ok s).chan c
         = if c ∈ z.chans then { s.chan c with rezero := false } else s.chan c)
     ∧ (∀ n ∈ z.slots, (zeroEnd z true s).slot n = { SlotLive.reset with
           fresh := (s.slot n).fresh, fault := (s.slot n).fault, removed := (s.slot n).removed
           putBack := (s.slot n).putBack, replenished := (s.slot n).replenished
           deficit := (s.slot n).deficit })
     ∧ (HeldOk s → QueueOk s → ∀ n ∈ z.slots, (zeroEnd z true s).entry (.slot n) = none)
     ∧ ∀ n, n ∉ z.slots → SameButHeld (s.slot n) ((zeroEnd z true s).slot n))
  ∧ (∀ (s : State) (node : Node) (z : RezeroSet) (f r : Frame) (timeout : Nat), s.trunk.rx = Assembler.reset →
     s.trunk.txn = some ⟨.forward (some node) (some z), f, false, timeout⟩ →
     r.crcOk = true → r.payload.length ≤ 240 → r.addr ≠ 0xD5 → r.station = node.val + 1 →
     r.towardAisle = true →
     ∀ p ∈ [(Instr.trunkFrameReceived (rxBytes r.wire), r,
           r.kindCode = 4 && 2 ≤ r.payload.length && byteAt r.payload 1 = 0),
         (Instr.replyWindowClose, ⟨addrByte (node.val + 1) true, kindByte f.tag 5, f.payload.take 1,
           crc16 (crcCovered (addrByte (node.val + 1) true) (kindByte f.tag 5) (f.payload.take 1))⟩, false)],
       let ended := { s with trunk := { s.trunk with txn := none } }
       let u := if s.link.returns.length < 4
         then { ended with link := { s.link with returns := s.link.returns ++ [p.2.1] } }
         else { ended with mgmt := { s.mgmt with counters := { s.mgmt.counters with
           returnDrop := min 65535 (s.mgmt.counters.returnDrop + 1) } } }
       ∃ t, exec p.1 s = .next t ∧ t = arbitrate (zeroEnd z p.2.2 u)
         ∧ (s.trunk.forwards = [] → s.store.requested = none →
           t.chans = (zeroEnd z p.2.2 u).chans ∧ t.slots = (zeroEnd z p.2.2 u).slots
           ∧ t.alerts = (zeroEnd z p.2.2 u).alerts ∧ t.link = u.link))

/-- The motion list. An offered node already on it stays where it stands, a new one joins at the tail of a list
with room, and one that finds 8 nodes is refused and counted (R149). A node that leaves takes its place with it
and leaves the pointer at the node it stood at, unless that was the node itself (R150). When a slot has left
motion, a node of the list leaves it exactly when it carries a member of that slot and is no longer needed, that
is, when no enabled slot in motion has a LIVE member on it; the rest keep their order and the pointer its node
(R151). -/
def Obligations.MotionListTakesNodesOnceAndKeepsItsPointer : Prop :=
  (∀ (node : Node) (s : State),
     (node ∈ s.trunk.motionList → offerNode node s = s)
     ∧ (node ∉ s.trunk.motionList → s.trunk.motionList.length < 8 →
       offerNode node s = { s with trunk := { s.trunk with motionList := s.trunk.motionList ++ [node] } })
     ∧ (node ∉ s.trunk.motionList → 8 ≤ s.trunk.motionList.length →
       offerNode node s = { s with mgmt := { s.mgmt with counters := { s.mgmt.counters with
         motionOverflow := min 65535 (s.mgmt.counters.motionOverflow + 1) } } }))
  ∧ (∀ (t : Trunk) (node : Node), MotionListOk t → node ∈ t.motionList →
     MotionListOk (t.dropNode node) ∧ node ∉ (t.dropNode node).motionList
     ∧ (∀ m, m ≠ node → (m ∈ (t.dropNode node).motionList ↔ m ∈ t.motionList))
     ∧ ∀ m, t.motionNode = some m → m ≠ node → (t.dropNode node).motionNode = some m)
  ∧ (∀ (b : Bank) (n : Slot) (s : State), MotionListOk s.trunk →
     let t := leaveMotion b n s
     let isNeeded := fun node : Node => ∃ m, (s.slot m).motion.isSome = true ∧ (b.cfg m).enabled = true
       ∧ b.carriesLive m node
     let stays := fun node : Node => ¬ b.carries n node ∨ isNeeded node
     t = { s with trunk := { s.trunk with
       motionList := t.trunk.motionList, motionPtr := t.trunk.motionPtr } }
     ∧ t.trunk.motionList.Sublist s.trunk.motionList
     ∧ (∀ node, node ∈ t.trunk.motionList ↔ node ∈ s.trunk.motionList ∧ stays node)
     ∧ MotionListOk t.trunk
     ∧ ∀ node, s.trunk.motionNode = some node → stays node → t.trunk.motionNode = some node)

/-! ## Conversion and faults (chapter 2) -/

/-- The grams of a good reading (R25): with p the exact product of offset count and gain, the result is the
whole number nearest to p / 4,096, exact halves away from zero, its sign changed if invert is set, clamped to
1,048,575 either way. Invert and rounding commute. -/
def Obligations.GramsAreTheNearestWholeNumber : Prop :=
  ∀ (m : ChanMap) (x : BitVec 24), ∃ q : Int,
    let p := (x.toInt - m.offset.toInt) * m.gain.toNat
    p - 4096 * q ≤ 2048 ∧ 4096 * q - p ≤ 2048
    ∧ (4096 * q - p = 2048 → 0 ≤ p) ∧ (p - 4096 * q = 2048 → p ≤ 0)
    ∧ toGrams m x = max (-1048575) (min 1048575 (if m.invert then -q else q))
    ∧ div4096 (-p) = -div4096 p

/-- The fault test of a slot (R34, R35, R37): a slot that is not faulted becomes faulted exactly when the
fault condition holds, with the reason NODE_SILENT if any LIVE member's node is SILENT; a faulted slot clears
exactly when the clear condition holds; otherwise nothing changes. An onset empties mask and window and ends
motion, keeps count, stock, totals and forecast, and raises FAULT; a clear raises nothing. -/
def Obligations.FaultTestStartsAndClearsFaults : Prop :=
  ∀ (b : Bank) (n : Slot) (s : State),
    let silent := ∃ p ∈ b.liveMembers n, (s.node (nodeOf p.1)).state = .silent
    let bad := ∃ p ∈ b.liveMembers n, (s.chan p.1).badStreak = 3
    let clear := ∀ p ∈ b.liveMembers n, (s.node (nodeOf p.1)).state = .alive ∧ (s.chan p.1).badStreak = 0
    let reason := if silent then FaultReason.nodeSilent else .badSamples
    let t := faultTest b n s
    ((s.slot n).fault = none → (silent ∨ bad) →
      t.slot n = { s.slot n with
        fault := some reason, fresh := 0, window := none, motion := none, motionReported := false
        held := (t.slot n).held }
      ∧ (∀ m, m ≠ n → SameButHeld (s.slot m) (t.slot m)) ∧ t.chans = s.chans ∧ t.trunk.nodes = s.trunk.nodes
      ∧ (maskHas s.mgmt.mask .fault = false → s.entry (.slot n) = none → (s.slot n).held = none →
          s.alerts.length < 64 → t.entry (.slot n) = some ⟨⟨.slot n, .fault, reason.alertReason,
            (s.slot n).count, none, none, some (b.cfg n).article, s.now⟩, true⟩))
    ∧ ((s.slot n).fault = none → ¬ (silent ∨ bad) → t = s)
    ∧ ((s.slot n).fault.isSome = true → clear → t = s.modSlot n fun v => { v with fault := none, fresh := 0 })
    ∧ ((s.slot n).fault.isSome = true → ¬ clear → t = s)

/-! ## Settle windows and counting (chapters 3 and 4) -/

/-- A run of samples in one window (R40 to R42): the anchor is the first, the sample count is their number, the
agree count and the exact sum are those of the samples within the band of the anchor. The settled weight lies
within the band of the anchor and rounds an exact half up (R44). -/
def Obligations.WindowHoldsAgreeingSamplesAndSettlesInTheBand : Prop :=
  (∀ (band : Nat) (x : Int) (xs : List Int),
     let w := xs.foldl (fun w y => Window.take (some w) band y) (Window.take none band x)
     let near := xs.filter fun y => (y - x).natAbs ≤ band
     w.anchor = x ∧ w.count = xs.length + 1 ∧ w.agree = near.length + 1 ∧ w.sum = x + near.sum)
  ∧ ((∀ (band : Nat) (x : Int) (xs : List Int),
     ((xs.foldl (fun w y => Window.take (some w) band y) (Window.take none band x)).settledWeight
       - x).natAbs ≤ band)
   ∧ ∀ w : Window, 0 < w.agree → 2 * (w.settledWeight * w.agree - w.sum) ≤ w.agree
     ∧ -(w.agree : Int) < 2 * (w.settledWeight * w.agree - w.sum))

/-- The close tests (R43), for settings with T at most W and a window whose agree count is at most its sample
count: a window that stays open holds fewer than W samples and can still reach T; a settled close comes at W
samples with T in agreement; an unsettled one exactly when T can no longer be reached; the first sample never
closes a window early. -/
def Obligations.WindowClosesWhenItsOutcomeIsCertain : Prop :=
  ∀ (w : Window) (width threshold : Nat), 1 ≤ threshold → threshold ≤ width → 1 ≤ w.agree →
    w.agree ≤ w.count → w.count ≤ width →
    (w.verdict width threshold = .stays ↔ w.count < width ∧ threshold ≤ w.agree + (width - w.count))
    ∧ (w.verdict width threshold = .settled ↔ w.count = width ∧ threshold ≤ w.agree)
    ∧ (w.verdict width threshold = .unsettled ↔ w.agree + (width - w.count) < threshold)
    ∧ (w.count = 1 → w.verdict width threshold ≠ .unsettled)

/-- An unsettled close (R45 to R48): the window empties, motion starts at the first close of a run and keeps its
start, count, stock state, last settled weight and streak are unchanged, and INSPECT for motion is raised once
the elapsed time has reached the motion limit and no INSPECT was raised in this run. Where the queue has room
and holds nothing of the slot, that INSPECT is queued. Each node with a LIVE member of the slot that is not on the
motion list joins its tail, in ascending order, while the list has room, and each refused one is counted; nothing
else of the part changes (R47). A settled close (R45, R49) empties the window, ends motion, stores the weight and
counts it: accepted it is the confirmed count, else count and stock state stand. Where the slot was in motion, the
nodes that carry a member of it and no LIVE member of another enabled slot in motion leave the list (R151); where
it was not, the trunk is untouched. -/
def Obligations.UnsettledCloseStartsOrKeepsMotion : Prop :=
  (∀ (b : Bank) (n : Slot) (s : State),
    let t := unsettledClose b n s
    let start := (s.slot n).motion.getD s.now
    let reports := (b.cfg n).motionLimit.toNat ≤ (s.now - start).toNat ∧ (s.slot n).motionReported = false
    t.slot n = { s.slot n with
        window := none, motion := some start
        motionReported := if reports then true else (s.slot n).motionReported
        inspection := if reports then some .motion else (s.slot n).inspection
        held := (t.slot n).held }
    ∧ (∀ m, m ≠ n → SameButHeld (s.slot m) (t.slot m)) ∧ (¬ reports → t.alerts = s.alerts)
    ∧ (reports → maskHas s.mgmt.mask .inspect = false → s.entry (.slot n) = none → (s.slot n).held = none →
        s.alerts.length < 64 → t.entry (.slot n) = some ⟨⟨.slot n, .inspect, .motion, (s.slot n).count, none,
          none, some (b.cfg n).article, s.now⟩, false⟩)
    ∧ let offered := (List.finRange 32).filter fun node =>
        (b.liveMembers n).any (fun p => nodeOf p.1 = node) && node ∉ s.trunk.motionList
      let room := 8 - s.trunk.motionList.length
      t = { s with
        slots := t.slots
        alerts := t.alerts
        trunk := { s.trunk with motionList := s.trunk.motionList ++ offered.take room }
        mgmt := { s.mgmt with counters := { s.mgmt.counters with
          motionOverflow := if offered.length ≤ room then s.mgmt.counters.motionOverflow
            else min 65535 (s.mgmt.counters.motionOverflow + (offered.length - room))
          queueOverflow := t.mgmt.counters.queueOverflow } } })
  ∧ ∀ (b : Bank) (n : Slot) (g : Int) (s : State),
    let t := settledClose b n g s
    (t.slot n).window = none ∧ (t.slot n).motion = none ∧ (t.slot n).motionReported = false
    ∧ (t.slot n).lastSettled = some g ∧ (t.slot n).fresh = (s.slot n).fresh
    ∧ (t.slot n).fault = (s.slot n).fault
    ∧ (accepted (b.cfg n) g = true → (t.slot n).count = some (countOf (b.cfg n) g))
    ∧ (accepted (b.cfg n) g = false →
      (t.slot n).count = (s.slot n).count ∧ (t.slot n).stock = (s.slot n).stock)
    ∧ (∀ m, m ≠ n → SameButHeld (s.slot m) (t.slot m))
    ∧ ((s.slot n).motion = none → t.trunk = s.trunk)
    ∧ ((s.slot n).motion.isSome = true → MotionListOk s.trunk →
      t.trunk = { s.trunk with motionList := t.trunk.motionList, motionPtr := t.trunk.motionPtr }
      ∧ t.trunk.motionList.Sublist s.trunk.motionList
      ∧ ∀ node, node ∈ t.trunk.motionList ↔ node ∈ s.trunk.motionList ∧ (¬ b.carries n node
        ∨ ∃ m, m ≠ n ∧ (s.slot m).motion.isSome = true ∧ (b.cfg m).enabled = true ∧ b.carriesLive m node))

/-- The count and the tolerance test. The count is the net weight over U rounded half up and clamped to 0 to 65,535
(R57); a weight within tolerance of k units, k from 0 to 65,535, is accepted and counts k. An accepted count is
within tolerance of a whole number of units, so it is never a tie and never the result of the clamp (R58, R59). Any
other is ambiguous (R60): below the ambiguity limit the streak rises by one, and INSPECT for AMBIGUOUS is raised
exactly when it rises to the limit; nothing else of the slot changes. -/
def Obligations.OnlyCountsInToleranceAreAccepted : Prop :=
  (∀ (cfg : SlotCfg) (g : Int), cfg.unitWeight ≠ 0 → cfg.tolerance.toNat ≤ 127 →
     (accepted cfg g = true ↔
       256 * (g - cfg.tare.toNat - (countOf cfg g : Int) * cfg.unitWeight.toNat).natAbs
         ≤ cfg.tolerance.toNat * cfg.unitWeight.toNat)
     ∧ (accepted cfg g = true → rawCount cfg g = countOf cfg g ∧ countOf cfg g ≤ 65535
       ∧ ∀ k : Int, 2 * (g - cfg.tare.toNat) ≠ (2 * k + 1) * cfg.unitWeight.toNat)
     ∧ (countOf cfg g : Int) = max 0 (min 65535
       ((2 * (g - cfg.tare.toNat) + cfg.unitWeight.toNat) / (2 * cfg.unitWeight.toNat)))
     ∧ ∀ k : Nat, k ≤ 65535 →
       256 * (g - cfg.tare.toNat - (k : Int) * cfg.unitWeight.toNat).natAbs
         ≤ cfg.tolerance.toNat * cfg.unitWeight.toNat →
       accepted cfg g = true ∧ countOf cfg g = k)
  ∧ (∀ (b : Bank) (n : Slot) (g : Int) (s : State), accepted (b.cfg n) g = false →
     let t := counting b n g s
     let limit := (b.cfg n).ambiguity.toNat
     OnlySlot n s t
     ∧ t.slot n = { s.slot n with
         streak := if (s.slot n).streak < limit then (s.slot n).streak + 1 else (s.slot n).streak
         inspection := if (s.slot n).streak + 1 = limit then some .ambiguous else (s.slot n).inspection
         held := (t.slot n).held }
     ∧ ((s.slot n).streak + 1 ≠ limit → t.alerts = s.alerts)
     ∧ ((s.slot n).streak + 1 = limit → maskHas s.mgmt.mask .inspect = false → s.entry (.slot n) = none →
         (s.slot n).held = none → s.alerts.length < 64 → t.entry (.slot n) = some ⟨⟨.slot n, .inspect,
           .ambiguous, (s.slot n).count, none, none, some (b.cfg n).article, s.now⟩, false⟩))

/-- An accepted count (R61 to R66): it becomes the confirmed count, the streak returns to 0, and the
difference from the count it replaces is a take, a replenishment of the covering session or a put-back, each
with its own totals; a first count of an UNKNOWN slot is no change. A put-back above the slot's put limit sets the
inspection reason ADDITION, and no other change touches the inspection; where the queue has room and holds nothing
of the slot, its INSPECT is queued with the new count, here for a STOCKED slot whose count stood above the reorder
point, as it does in every reachable state, or a short one (R65). -/
def Obligations.AcceptedCountClassifiesTheChange : Prop :=
  ∀ (b : Bank) (n : Slot) (g : Int) (s : State) (c : Nat), accepted (b.cfg n) g = true →
    countOf (b.cfg n) g = c →
    let t := counting b n g s
    (t.slot n).count = some c ∧ (t.slot n).streak = 0
    ∧ (∀ m, m ≠ n → SameButHeld (s.slot m) (t.slot m))
    ∧ ((s.slot n).stock = .unknown →
        (t.slot n).removed = (s.slot n).removed ∧ (t.slot n).putBack = (s.slot n).putBack
        ∧ (t.slot n).replenished = (s.slot n).replenished ∧ t.sessions = s.sessions
        ∧ (t.slot n).inspection = (s.slot n).inspection
        ∧ (t.slot n).elapsed = if (b.cfg n).forecast = 0 then (s.slot n).elapsed else some 0)
    ∧ ∀ old, (s.slot n).stock ≠ .unknown → (s.slot n).count = some old →
        (t.slot n).removed = (s.slot n).removed + BitVec.ofNat 32 (old - c)
        ∧ (t.slot n).putBack = (s.slot n).putBack
            + (if s.covered n then 0 else BitVec.ofNat 32 (c - old))
        ∧ (t.slot n).replenished = (s.slot n).replenished
            + (if s.covered n then BitVec.ofNat 32 (c - old) else 0)
        ∧ (t.slot n).elapsed = (s.slot n).elapsed
        ∧ (t.slot n).removedSum = (if (b.cfg n).forecast = 0 then (s.slot n).removedSum
            else if c < old then min 16777215 ((s.slot n).removedSum + (old - c))
            else if s.covered n then (s.slot n).removedSum else (s.slot n).removedSum - (c - old))
        ∧ (∀ id, t.session id = if s.coveringId n = some id
            then (s.session id).map fun r => { r with added := r.added + BitVec.ofNat 32 (c - old) }
            else s.session id)
        ∧ let large := s.covered n = false ∧ (b.cfg n).putLimit.toNat < c - old
          (t.slot n).inspection = (if large then some .addition else (s.slot n).inspection)
          ∧ (large → ((s.slot n).stock = .stocked → (b.cfg n).reorder.toNat < old) →
            maskHas s.mgmt.mask .inspect = false → s.entry (.slot n) = none → (s.slot n).held = none →
            s.alerts.length < 64 → t.entry (.slot n) = some ⟨⟨.slot n, .inspect, .addition, some c, none, none,
              some (b.cfg n).article, s.now⟩, false⟩)

/-! ## Stock states (chapter 5) -/

/-- Table 5-3 row by row, and its idempotence (R76). A stock evaluation (R77, R80 to R83, R103) leaves the state the
count classifies to, changes the acknowledged flag and the repeat deadline by Table 5-7 and re-arms the forecast
on recovery, raises the alert of Table 5-6 for a slot that is not covered and nothing for a covered one; one that
finds the same state changes nothing. -/
def Obligations.StockEvaluationFollowsTables53And57 : Prop :=
  (∀ (p q c : Nat) (st : StockState),
     (c = 0 → classify p q c st = .empty)
     ∧ (1 ≤ c → c ≤ p → classify p q c st = .low)
     ∧ (p ≤ q → q < c → classify p q c st = .stocked)
     ∧ (p < c → c ≤ q → (st = .low ∨ st = .empty) → classify p q c st = .low)
     ∧ (p < c → c ≤ q → (st = .stocked ∨ st = .unknown) → classify p q c st = .stocked)
     ∧ classify p q c (classify p q c st) = classify p q c st)
  ∧ (∀ (b : Bank) (n : Slot) (s : State) (c : Nat), (s.slot n).count = some c →
     let old := (s.slot n).stock
     let new := classify (b.cfg n).reorder.toNat (b.cfg n).clear.toNat c old
     let t := stockEvaluate b n s
     let fresh := s.minute + BitVec.ofNat 32 (b.cfg n).interval.toNat
     (new = old → t = s)
     ∧ (new ≠ old → OnlySlot n s t ∧ t.slot n = { s.slot n with
         stock := new
         acked := if old = .empty ∧ new = .low then (s.slot n).acked else false
         deadline := if new = .stocked then none
           else if old = .empty ∧ new = .low then (s.slot n).deadline else some fresh
         armed := if old.short ∧ new = .stocked then true else (s.slot n).armed
         held := (t.slot n).held })
     ∧ (s.covered n = true → t.alerts = s.alerts ∧ (t.slot n).held = (s.slot n).held)
     ∧ (new ≠ old → s.covered n = false →
         let raised := if new = .stocked then if old.short ∧ (b.cfg n).notify = true then some AlertKind.recovered else none
           else if old = .empty then none
           else if new = .empty ∧ (b.cfg n).emptyAlert = true then some .empty
           else if old = .low ∨ (b.cfg n).mode = .off then none else some .low
         (raised = none → t.alerts = s.alerts)
         ∧ ∀ k, raised = some k → maskHas s.mgmt.mask k = false → s.entry (.slot n) = none →
             (s.slot n).held = none → s.alerts.length < 64 →
             t.entry (.slot n) = some ⟨⟨.slot n, k, .noReason, some c, none, none, some (b.cfg n).article,
               s.now⟩, k = .empty || (k = .low && (b.cfg n).urgentClass)⟩))

/-- The arming decision (R100 to R102): the projection is recomputed; above the lead time the slot is armed;
at or below it an armed STOCKED slot with a rate, neither covered nor faulted, raises FORECAST and is
disarmed; otherwise the flag is left as it is. -/
def Obligations.ProjectionDecidesTheForecastAlert : Prop :=
  ∀ (b : Bank) (n : Slot) (s : State),
    let v := s.slot n
    let p := match v.count, v.rate with
      | some c, some r => if r = 0 then 65535 else min 65535 (c * (b.cfg n).forecast.toNat / r)
      | _, _ => 65535
    let warns := p ≤ (b.cfg n).lead.toNat ∧ v.armed = true ∧ v.stock = .stocked ∧ v.rate.any (0 < ·) = true
      ∧ s.covered n = false ∧ v.fault = none
    let t := recompute b n s
    OnlySlot n s t
    ∧ t.slot n = { v with
        projection := p
        armed := if (b.cfg n).lead.toNat < p then true else if warns then false else v.armed
        held := (t.slot n).held }
    ∧ (¬ warns → t.alerts = s.alerts)
    ∧ (warns → maskHas s.mgmt.mask .forecast = false → s.entry (.slot n) = none → v.held = none →
        s.alerts.length < 64 → t.entry (.slot n) = some ⟨⟨.slot n, .forecast, .noReason, v.count, none,
          some p, some (b.cfg n).article, s.now⟩, false⟩)

/-! ## Acknowledgement and restock sessions (section 5.4, chapter 7) -/

/-- ACK_SLOT (R89, R90): each named slot is acknowledged or denied by itself, in the order given; the status is
OK if none was denied. An acknowledged slot has its flag set and its inspection cleared, keeps its repeat
deadline, state, count and streak, and has no LOW, EMPTY, FORECAST or INSPECT left queued or held. A slot that
is only denied changes in nothing but what a re-offer clears. That a refusal carries no results is assumption 9,
and that no count byte precedes the statuses is assumption 21. -/
def Obligations.AckSlotAcknowledgesEachGrantedSlot : Prop :=
  ∀ (s : State) (f : Frame) (src : Source) (args : List Byte), Taking s f src 0x12 args →
    (args = [] ∨ 8 < args.length → exec .ackSlot s = .next (s.answered f 0x12 .badField []))
    ∧ (args ≠ [] → args.length ≤ 8 →
      let may := fun a : Byte => s.zones.holds src .ack (slotOfByte a)
      ∃ t, exec .ackSlot s = .next t
        ∧ Answered s t f 0x12 (if args.all may then .ok else .denied)
          (args.map fun a => if may a then 0 else 5)
        ∧ (∀ a ∈ args, may a = true →
          t.slot (slotOfByte a) = { s.slot (slotOfByte a) with
            acked := true, inspection := none, held := (t.slot (slotOfByte a)).held }
          ∧ (AlertsOk s → ∀ k, (∃ e, t.entry (.slot (slotOfByte a)) = some e ∧ e.alert.kind = k)
              ∨ (t.slot (slotOfByte a)).held = some k → k = .fault ∨ k = .recovered))
        ∧ (∀ n, (∀ a ∈ args, slotOfByte a = n → may a = false) → SameButHeld (s.slot n) (t.slot n))
        ∧ (args.all may = true → t.zones = s.zones)
        ∧ t.store = s.store ∧ t.chans = s.chans ∧ t.trunk = s.trunk ∧ t.link = s.link ∧ t.time = s.time
        ∧ t.sessions = s.sessions)

/-- OPEN_RESTOCK (R110 to R114): the checks in their order, each with its status and nothing changed but the
capture of a denial; a request that passes them opens the FREE record with the lowest id and decides the deficit-
at-open flag of every slot of the range. That a refusal other than OVERLAP carries no results is assumption 9, and
that no presence byte precedes the deadline is assumption 22. -/
def Obligations.OpenRestockChecksThenOpens : Prop :=
  ∀ (s : State) (f : Frame) (src : Source) (a b d : Byte), Taking s f src 0x10 [a, b, d] →
    let first := slotOfByte a
    let last := slotOfByte b
    let lacks := fun n : Slot => first ≤ n ∧ n ≤ last ∧ s.zones.holds src .session n = false
    let meets := fun id : SessionId => ∃ r, s.session id = some r ∧ r.first ≤ last ∧ first ≤ r.last
    (d = 0 → exec .openRestock s = .next (s.answered f 0x10 .badField []))
    ∧ (d ≠ 0 → last < first → exec .openRestock s = .next (s.answered f 0x10 .badIndex []))
    ∧ (d ≠ 0 → first ≤ last →
      (∀ n, lacks n → (∀ m, lacks m → n ≤ m) →
        exec .openRestock s = .next ((s.denial src 0x10 (some n)).answered f 0x10 .denied []))
      ∧ ((¬ ∃ n, lacks n) →
        (∀ id, meets id → (∀ j, meets j → id ≤ j) →
          exec .openRestock s = .next (s.answered f 0x10 .overlap [BitVec.ofNat 8 id.val]))
        ∧ ((¬ ∃ id, meets id) →
          ((∀ id, (s.session id).isSome = true) →
            exec .openRestock s = .next (s.answered f 0x10 .full []))
          ∧ ∀ id, s.session id = none → (∀ j, s.session j = none → id ≤ j) →
            ∃ t, exec .openRestock s = .next t
              ∧ Answered s t f 0x10 .ok
                (BitVec.ofNat 8 id.val :: beBytes 4 (s.time.minutes + BitVec.ofNat 32 d.toNat).toNat)
              ∧ t = { s with
                  sessions := s.sessions.set id (some ⟨first, last, src, s.time.seconds,
                    s.time.minutes + BitVec.ofNat 32 d.toNat, 0⟩)
                  slots := t.slots
                  mgmt := { s.mgmt with
                    requests := t.mgmt.requests, response := t.mgmt.response } }
              ∧ ∀ n, t.slot n = if first ≤ n ∧ n ≤ last
                  then { s.slot n with deficit := (s.slot n).stock.short } else s.slot n)))

/-- CLOSE_RESTOCK (R115, R117, R118): an id above 7 and a FREE record are refused; a source without SESSION on the
session's first slot is denied; otherwise the record becomes FREE, its units added are returned, every slot of its
range is re-evaluated, and no LAPSED is raised. The re-evaluation raises the standing alert of each short slot of
the range, and RECOVERED for each STOCKED slot with the deficit-at-open flag and notify-recovered set; it is queued
where the queue has room for all that the close raises and holds nothing of the slot, and no other slot comes into
the queue that was neither there nor held back. That a refusal carries no results is assumption 9, and that no
presence byte precedes the units added is assumption 22. -/
def Obligations.CloseRestockReevaluatesItsRange : Prop :=
  ∀ (s : State) (f : Frame) (src : Source) (a : Byte), Taking s f src 0x11 [a] →
    (7 < a.toNat → exec .closeRestock s = .next (s.answered f 0x11 .badIndex []))
    ∧ ∀ id : SessionId, id.val = a.toNat →
      (s.session id = none → exec .closeRestock s = .next (s.answered f 0x11 .noSession []))
      ∧ ∀ r, s.session id = some r →
        (s.zones.holds src .session r.first = false →
          exec .closeRestock s = .next ((s.denial src 0x11 (some r.first)).answered f 0x11 .denied []))
        ∧ (s.zones.holds src .session r.first = true →
          ∃ t, exec .closeRestock s = .next t ∧ Answered s t f 0x11 .ok (beBytes 4 r.added.toNat)
            ∧ t = { s with
                sessions := s.sessions.set id none
                slots := t.slots
                alerts := t.alerts
                mgmt := { s.mgmt with
                  requests := t.mgmt.requests
                  response := t.mgmt.response
                  counters := { s.mgmt.counters with
                    queueOverflow := t.mgmt.counters.queueOverflow } } }
            ∧ (∀ n, SameButHeld
                (if r.covers n then (s.slot n).closed (s.acting.cfg n) s.minute else s.slot n) (t.slot n))
            ∧ (HeldOk s → ∀ e ∈ t.alerts, e.alert.kind = .lapsed → e ∈ s.alerts)
            ∧ ClosedSlotAlerts r 0 s t)

/-! ## The alert queue (chapter 8) -/

/-- Raising an alert. One that meets a queued entry of its key (R126, Table 8-3): a RECOVERED over LOW, EMPTY or
FORECAST withdraws it, a rank at or above the queued one replaces the contents, and a lower rank is dropped; the
tier never falls (here without held-back slots, so that no re-offer follows). One with no queued entry (R128,
R129): it joins the tail of its tier while there is room; against a full queue its slot is held back and counted;
against a slot already held back only the held kind changes, to the higher rank, or to none for a recovery. A
suppressed kind changes nothing. -/
def Obligations.RaisedAlertsMergeQueueOrHoldBack : Prop :=
  (∀ (b : Bank) (a : Alert) (e : AlertEntry) (s : State), QueueOk s → (∀ n, (s.slot n).held = none) →
     maskHas s.mgmt.mask a.kind = false → s.entry a.key = some e →
     let t := raiseAlert b a s
     t = { s with alerts := t.alerts }
     ∧ (∀ k, k ≠ a.key → t.entry k = s.entry k)
     ∧ (a.kind = .recovered → (e.alert.kind = .low ∨ e.alert.kind = .empty ∨ e.alert.kind = .forecast) →
         t.entry a.key = none ∧ t.alerts.length + 1 = s.alerts.length)
     ∧ (¬ (a.kind = .recovered ∧ (e.alert.kind = .low ∨ e.alert.kind = .empty ∨ e.alert.kind = .forecast)) →
         t.alerts.length = s.alerts.length
         ∧ t.entry a.key = if e.alert.kind.code ≤ a.kind.code then some ⟨a, e.urgent || a.urgent b⟩ else some e))
  ∧ (∀ (b : Bank) (n : Slot) (a : Alert) (s : State), a.key = .slot n →
     (maskHas s.mgmt.mask a.kind = true → raiseAlert b a s = s)
     ∧ (maskHas s.mgmt.mask a.kind = false → s.entry a.key = none →
       ((s.slot n).held = none → s.alerts.length < 64 →
         raiseAlert b a s = { s with
           alerts := if (a.urgent b) = true
             then s.alerts.takeWhile (·.urgent) ++ ⟨a, true⟩ :: s.alerts.dropWhile (·.urgent)
             else s.alerts ++ [⟨a, false⟩] })
       ∧ ((s.slot n).held = none → 64 ≤ s.alerts.length →
         raiseAlert b a s = { s with
           slots := s.slots.set n { s.slot n with held := some a.kind }
           mgmt := { s.mgmt with counters := { s.mgmt.counters with
             queueOverflow := min 65535 (s.mgmt.counters.queueOverflow + 1) } } })
       ∧ ∀ h, (s.slot n).held = some h →
         raiseAlert b a s = { s with
           slots := s.slots.set n { s.slot n with
             held := if a.kind = .recovered ∧ (h = .low ∨ h = .empty ∨ h = .forecast) then none
               else if h.code < a.kind.code then some a.kind else some h } }))

/-- A withdrawal frees a place, and the lowest-numbered held-back slot takes it with its current details (R130,
R131): the kind it was held with, its present count and, for FORECAST, projection, and, for FAULT and INSPECT, the
reason it holds now. -/
def Obligations.WithdrawalReoffersTheLowestHeldSlot : Prop :=
  ∀ (b : Bank) (k : AlertKey) (e : AlertEntry) (n : Slot) (h : AlertKind) (s : State),
    QueueOk s → s.entry k = some e → (s.slot n).held = some h → (∀ m, m < n → (s.slot m).held = none) →
    s.entry (.slot n) = none →
    let t := withdraw b k s
    t.alerts.length = s.alerts.length ∧ t.entry k = none
    ∧ (t.slot n).held = none ∧ (∀ m, m ≠ n → t.slot m = s.slot m)
    ∧ t.entry (.slot n) = some (heldEntry b n h s)

/-- SET_ALERT_MASK (R132, R172): bit 7 of either mask is BAD_FIELD, a source without PLAN is denied, and
otherwise the set-mask and then the clear-mask are applied, the mask is reported, and no queued entry and no
held kind of a newly suppressed kind is left. Nothing outside the alert queue and the mask changes. That a
refusal carries no results is assumption 9. -/
def Obligations.SetAlertMaskSetsThenClears : Prop :=
  ∀ (s : State) (f : Frame) (src : Source) (x y : Byte), Taking s f src 0x13 [x, y] →
    ((x.getLsbD 7 = true ∨ y.getLsbD 7 = true) →
      exec .setAlertMask s = .next (s.answered f 0x13 .badField []))
    ∧ (x.getLsbD 7 = false → y.getLsbD 7 = false → s.zones.plan src = false →
      exec .setAlertMask s = .next ((s.denial src 0x13 none).answered f 0x13 .denied []))
    ∧ (x.getLsbD 7 = false → y.getLsbD 7 = false → s.zones.plan src = true →
      ∃ t, exec .setAlertMask s = .next t
        ∧ (∀ i : Fin 7, t.mgmt.mask.getLsbD i.val
            = ((s.mgmt.mask.getLsbD i.val || x.getLsbD i.val) && !y.getLsbD i.val))
        ∧ Answered s t f 0x13 .ok [t.mgmt.mask.setWidth 8]
        ∧ t = { s with
            alerts := t.alerts
            slots := t.slots
            mgmt := { s.mgmt with
              requests := t.mgmt.requests, response := t.mgmt.response, mask := t.mgmt.mask } }
        ∧ (∀ n, SameButHeld (s.slot n) (t.slot n))
        ∧ ∀ k, maskHas t.mgmt.mask k = true → maskHas s.mgmt.mask k = false →
            (∀ e ∈ t.alerts, e.alert.kind ≠ k) ∧ ∀ n, (t.slot n).held ≠ some k)

/-! ## Tables and banks (chapter 1, section 10.3) -/

/-- The stored-as adjustments (R3): threshold, clear point and the three fields that 0 is stored as 1 in, made
whether or not the mask names them; a stored record has T at most W and Q at least P, counts as accepted, and
reads back as adjusted. -/
def Obligations.StoredSlotRecordIsAdjusted : Prop :=
  (∀ (mask : Word) (r : List Byte) (old c : SlotCfg), slotWrite mask r old = some c →
    let m := SlotCfg.merge mask (SlotCfg.ofBytes r) old
    let t := if m.threshold = 0 then 1 else m.threshold
    c = { m with
      threshold := if 1 ≤ m.width.toNat ∧ m.width.toNat < t.toNat then m.width else t
      clear := if m.clear.toNat < m.reorder.toNat then m.reorder else m.clear
      interval := if m.interval = 0 then 1 else m.interval
      ambiguity := if m.ambiguity = 0 then 1 else m.ambiguity
      motionLimit := if m.motionLimit = 0 then 1 else m.motionLimit }
    ∧ (1 ≤ c.width.toNat → c.threshold.toNat ≤ c.width.toNat) ∧ c.reorder.toNat ≤ c.clear.toNat)
  ∧ (∀ m : SlotCfg, (m.width = 4 → m.threshold = 6 → m.adjust.threshold = 4)
      ∧ (m.reorder = 30 → m.clear = 20 → m.adjust.clear = 30))
  ∧ ∀ (b b' : Bank) (n : Slot) (mask : Word) (r : List Byte), b.write .slotCfg n.val mask r = .ok b' →
      slotWrite mask r (b.cfg n) = some (b'.cfg n) ∧ b'.read .slotCfg n.val = (b'.cfg n).toBytes
      ∧ (∀ m, m ≠ n → b'.cfg m = b.cfg m) ∧ b'.chans = b.chans ∧ b'.roster = b.roster
      ∧ b'.header = b.header

/-- The member check (R5): a write that routes a channel to a slot four other channels hold already is
refused with TOO_MANY, and no accepted write, of any table, leaves a slot with five members. -/
def Obligations.NoWriteLeavesAFifthMember : Prop :=
  (∀ (b : Bank) (c : Chan) (n : Slot) (mask : Word) (r : List Byte) (m : ChanMap),
    chanWrite mask r (b.map c) = some m → m.route = some n → (b.map c).route ≠ some n →
    4 ≤ (b.members n).length → b.write .channelMap c.val mask r = .error .tooMany)
  ∧ ∀ (b b' : Bank) (t : Table) (pos : Nat) (mask : Word) (r : List Byte),
    b.write t pos mask r = .ok b' → (∀ n, (b.members n).length ≤ 4) → ∀ n, (b'.members n).length ≤ 4

/-- A table record read back and written again is itself (Table 12-5; a roster header with its fields in range):
every field stands in its bytes and comes out of them, and the reserved bits are zero. -/
def Obligations.TableRecordsRoundTrip : Prop :=
  (∀ c : SlotCfg, c.toBytes.length = 27 ∧ SlotCfg.ofBytes c.toBytes = c ∧ slotReservedOk c.toBytes = true)
  ∧ (∀ m : ChanMap, m.toBytes.length = 8 ∧ ChanMap.ofBytes m.toBytes = m ∧ chanReservedOk m.toBytes = true)
  ∧ (∀ e old : Option Node, entryWrite 0x1 (entryBytes e) old = some e)
  ∧ ∀ h old : RosterHeader, h.length.toNat ≤ 128 → h.interleave.toNat ≤ 15 → h.timeout ≠ 0 →
    headerWrite 0xE h.toBytes old = some h

/-- LOAD_RECORDS makes its request-level checks in the order of R167, writes nothing when one fails, and answers
OK when all pass, whatever becomes of its records; it never changes the serving bank, the bank it does not name,
or the switch state. The load pointer advances after every record, written, skipped or refused, and wraps inside
the window; the accepted and skipped counts add up to the record count (R168, R169). That a refusal carries no
results is assumption 9. -/
def Obligations.LoadRecordsChecksInOrderAndAdvances : Prop :=
  (∀ (s : State) (f : Frame) (src : Source) (args : List Byte), Taking s f src 0x01 args →
     let a := loadArgs args
     let defined := a.tableCode.toNat ≤ 2 ∧ (a.bank = 1 ∨ a.bank = 2) ∧ a.condition ≤ 2
       ∧ (∀ t, tableOfCode a.tableCode = some t → a.condition ≠ 0 → a.field ≤ t.lastField)
       ∧ 1 ≤ a.count ∧ a.count ≤ 8
     let window := a.first ≤ a.start ∧ a.start ≤ a.last
       ∧ ∀ t, tableOfCode a.tableCode = some t → a.last ≤ t.lastPosition
     (¬ defined → exec .loadRecords s = .next (s.answered f 0x01 .badField []))
     ∧ ∀ bank, defined → bankOfCode a.bank = some bank →
       (s.store.serving = some bank → exec .loadRecords s = .next (s.answered f 0x01 .activeBank []))
       ∧ (s.store.serving ≠ some bank → s.store.requested = some bank →
         exec .loadRecords s = .next (s.answered f 0x01 .bankLocked []))
       ∧ (s.store.serving ≠ some bank → s.store.requested ≠ some bank →
         (¬ window → exec .loadRecords s = .next (s.answered f 0x01 .badIndex []))
         ∧ (window → ∃ t results, exec .loadRecords s = .next t ∧ Answered s t f 0x01 .ok results
           ∧ t = { s with
               store := s.store.setBank bank (t.store.bank bank)
               zones := { s.zones with capture := t.zones.capture }
               mgmt := { s.mgmt with requests := t.mgmt.requests, response := t.mgmt.response } })))
  ∧ (∀ (src : Source) (a : LoadArgs) (t : Table) (bank : BankId) (s : State) (rs : List (List Byte)),
     a.first ≤ a.start → a.start ≤ a.last →
     let p := (rs.foldl (loadRecord src a t bank) (s, ⟨a.start, 0, 0, none⟩)).2
     p.accepted + p.skipped = rs.length
     ∧ p.pointer = a.first + (a.start - a.first + rs.length) % (a.last - a.first + 1))

/-- A LOAD_RECORDS of one record, of any table and under any condition (R168, R169). A source without the right,
CONFIG on the slot for SLOT_CFG and PLAN for the other two tables, has the record refused with DENIED, and the
denial is recorded. A record whose condition fails is skipped: the compare field holds another value under
IF_EQUAL, that value under IF_DIFFERENT, and a field the position does not hold counts as not equal. Any other
record is stored as its table's rule gives it, or refused with that rule's code (R2 to R6, R190). The pointer
advances in every case. The form of the results is assumption 11. A record is refused with BAD_FIELD exactly where
a reserved bit is set, a named field is out of the range its table allows, or the record could not stand; otherwise
each field that the mask names takes the record's value and the others keep theirs, before the adjustments of R3. -/
def Obligations.LoadRecordWritesOneSlotRecord : Prop :=
  (∀ (s : State) (f : Frame) (src : Source) (args : List Byte) (bank : BankId) (table : Table) (pos : Nat),
    Taking s f src 0x01 args → tableOfCode (loadArgs args).tableCode = some table →
    bankOfCode (loadArgs args).bank = some bank → (loadArgs args).condition ≤ 2 →
    ((loadArgs args).condition ≠ 0 → (loadArgs args).field ≤ table.lastField) →
    (loadArgs args).count = 1 → (loadArgs args).first ≤ pos → pos ≤ (loadArgs args).last →
    (loadArgs args).last ≤ table.lastPosition → (loadArgs args).start = pos →
    s.store.serving ≠ some bank → s.store.requested ≠ some bank →
    let b := s.store.bank bank
    let right := match table with
      | .slotCfg => ∃ n : Slot, n.val = pos ∧ s.zones.holds src .config n = true
      | _ => s.zones.plan src = true
    let slot : Option Slot := if table = .slotCfg then some (slotOfByte (BitVec.ofNat 8 pos)) else none
    let stored : List (Option Nat) := match table with
      | .slotCfg =>
        let c := b.cfg (slotOfByte (BitVec.ofNat 8 pos))
        [c.enabled.toNat, c.article.toNat, c.unitWeight.toNat, c.tare.toNat, c.tolerance.toNat, c.width.toNat,
          c.threshold.toNat, c.band.toNat, c.reorder.toNat, c.clear.toNat, c.mode.code, c.interval.toNat,
          c.notify.toNat, c.emptyAlert.toNat, c.urgentClass.toNat, c.putLimit.toNat, c.ambiguity.toNat,
          c.motionLimit.toNat, c.forecast.toNat, c.lead.toNat].map some
      | .channelMap =>
        let m := b.map (slotOfByte (BitVec.ofNat 8 pos))
        [m.route.elim 256 (·.val), m.source.code, m.invert.toNat, (m.offset.signExtend 32).toNat,
          m.gain.toNat].map some
      | .roster =>
        if pos < 128 then [some ((b.entry pos).elim 0 fun n => n.val + 1), none, none, none]
        else [none, some b.header.length.toNat, some b.header.interleave.toNat, some b.header.timeout.toNat]
    let equal := stored[(loadArgs args).field]? = some (some (loadArgs args).value)
    let goesOn := (loadArgs args).condition = 0 ∨ ((loadArgs args).condition = 1 ∧ equal)
      ∨ ((loadArgs args).condition = 2 ∧ ¬ equal)
    let write := b.write table pos (loadArgs args).mask (args.drop 16)
    let pointer := BitVec.ofNat 8 (if pos = (loadArgs args).last then (loadArgs args).first else pos + 1)
    (¬ right → exec .loadRecords s = .next ((s.denial src 0x01 slot).answered f 0x01 .ok
      [0, 1, 1, BitVec.ofNat 8 pos, 5, pointer]))
    ∧ (right → ¬ goesOn → exec .loadRecords s = .next (s.answered f 0x01 .ok [0, 1, 0, 0, 0, pointer]))
    ∧ (right → goesOn →
      (∀ b', write = .ok b' → exec .loadRecords s = .next (State.answered
        { s with store := s.store.setBank bank b' } f 0x01 .ok [1, 0, 0, 0, 0, pointer]))
      ∧ ∀ status, write = .error status → exec .loadRecords s = .next (s.answered f 0x01 .ok
        [0, 1, 1, BitVec.ofNat 8 pos, status.code, pointer])))
  ∧ ∀ (b : Bank) (mask : Word) (r : List Byte),
    (∀ n : Slot, b.write .slotCfg n.val mask r = match slotWrite mask r (b.cfg n) with
      | some c => .ok { b with cfgs := b.cfgs.set n c }
      | none => .error .badField)
    ∧ (∀ c : Chan,
      (chanWrite mask r (b.map c) = none → b.write .channelMap c.val mask r = .error .badField)
      ∧ ∀ m, chanWrite mask r (b.map c) = some m →
        let fifth := ∃ n, m.route = some n ∧ (b.map c).route ≠ some n ∧ 4 ≤ (b.members n).length
        (fifth → b.write .channelMap c.val mask r = .error .tooMany)
        ∧ (¬ fifth → b.write .channelMap c.val mask r = .ok { b with chans := b.chans.set c m }))
    ∧ (∀ p : Fin 128, b.write .roster p.val mask r = match entryWrite mask r b.roster[p] with
      | some e => .ok { b with roster := b.roster.set p e }
      | none => .error .badField)
    ∧ (b.write .roster 128 mask r = match headerWrite mask r b.header with
      | some h => .ok { b with header := h }
      | none => .error .badField)
    ∧ (∀ old : SlotCfg, (slotWrite mask r old = none ↔ SlotRecordRefused mask r old)
      ∧ ∀ k < 20, (SlotCfg.merge mask (SlotCfg.ofBytes r) old).field k
        = if mask.getLsbD k = true then (SlotCfg.ofBytes r).field k else old.field k)
    ∧ (∀ old : ChanMap, (chanWrite mask r old = none ↔ ChanRecordRefused mask r old)
      ∧ ∀ m, chanWrite mask r old = some m → ∀ k < 5, m.field k
        = if mask.getLsbD k = true then (ChanMap.ofBytes r).field k else old.field k)
    ∧ (∀ old : Option Node, (entryWrite mask r old = none ↔ EntryRefused mask r)
      ∧ ∀ e, entryWrite mask r old = some e → e.elim 0 (fun n => n.val + 1)
        = if mask.getLsbD 0 = true then (byteAt r 0).toNat else old.elim 0 fun n => n.val + 1)
    ∧ ∀ old : RosterHeader, (headerWrite mask r old = none ↔ HeaderRefused mask r)
      ∧ ∀ h, headerWrite mask r old = some h →
        h.length.toNat = (if mask.getLsbD 1 = true then min 128 (byteAt r 0).toNat else old.length.toNat)
        ∧ h.interleave = (if mask.getLsbD 2 = true then byteAt r 1 else old.interleave)
        ∧ h.timeout = if mask.getLsbD 3 = true then byteAt r 2 else old.timeout

/-- READ_RECORDS returns the stored records of the positions it names, in order, of either bank, and changes no
state (R170). That a refusal carries no results is assumption 9, and that no count byte precedes the records is
assumption 21. -/
def Obligations.ReadRecordsReturnsStoredRecords : Prop :=
  ∀ (s : State) (f : Frame) (src : Source) (a b p k : Byte), Taking s f src 0x02 [a, b, p, k] →
    let defined := a.toNat ≤ 2 ∧ (b = 1 ∨ b = 2) ∧ 1 ≤ k.toNat ∧ k.toNat ≤ 8
    (¬ defined → exec .readRecords s = .next (s.answered f 0x02 .badField []))
    ∧ (defined → ∀ t, tableOfCode a = some t →
      (t.lastPosition < p.toNat + k.toNat - 1 →
        exec .readRecords s = .next (s.answered f 0x02 .badIndex []))
      ∧ (p.toNat + k.toNat - 1 ≤ t.lastPosition →
        exec .readRecords s = .next (s.answered f 0x02 .ok ((List.range k.toNat).flatMap fun i =>
          (if b = 1 then s.store.bankA else s.store.bankB).read t (p.toNat + i)))))

/-- COPY_BANK (R171, R7): its checks in order, and then all three tables of the serving bank stand in the other
bank, whose number is returned; nothing else changes. That a refusal carries no results is assumption 9. -/
def Obligations.CopyBankMakesTheBanksEqual : Prop :=
  ∀ (s : State) (f : Frame) (src : Source), Taking s f src 0x03 [] → s.zones.plan src = true →
    (s.store.serving = none → exec .copyBank s = .next (s.answered f 0x03 .badRequest []))
    ∧ ∀ b, s.store.serving = some b →
      (s.store.requested.isSome = true → exec .copyBank s = .next (s.answered f 0x03 .bankLocked []))
      ∧ (s.store.requested = none → ∃ t, exec .copyBank s = .next t
        ∧ Answered s t f 0x03 .ok [if b = .A then 2 else 1]
        ∧ t.store.bankA = s.store.bank b ∧ t.store.bankB = s.store.bank b
        ∧ t = { s with
            store := { s.store with bankA := t.store.bankA, bankB := t.store.bankB }
            mgmt := { s.mgmt with requests := t.mgmt.requests, response := t.mgmt.response } })

/-- SWITCH_BANK (R10, R172), row by row of Table 1-8: SAME, CANCELLED and a repeated PENDING change at most the
switch state; from NONE or an empty roster the target serves at once; otherwise the switch waits for the roster
turn, here with a transaction in flight. CANCEL_SWITCH drops a pending switch, or answers NOTHING_PENDING and
changes nothing (R11). That a refusal carries no results is assumption 9. That a pending switch is sent as 1 is
assumption 25. -/
def Obligations.SwitchBankAndCancelFollowTable18 : Prop :=
  (∀ (s : State) (f : Frame) (src : Source) (a : Byte), Taking s f src 0x04 [a] →
     (a ≠ 1 → a ≠ 2 → exec .switchBank s = .next (s.answered f 0x04 .badField []))
     ∧ ∀ target, bankOfCode a = some target → s.zones.plan src = true →
       let code := if target = .A then (1 : Byte) else 2
       (s.store.serving = some target → s.store.requested = none →
         exec .switchBank s = .next (s.answered f 0x04 .same [code, 0, 0]))
       ∧ (s.store.serving = some target → s.store.requested.isSome = true →
         exec .switchBank s = .next (State.answered { s with store := { s.store with requested := none } }
           f 0x04 .cancelled [code, 0, 0]))
       ∧ (s.store.serving ≠ some target → s.store.requested = some target →
         exec .switchBank s
           = .next (s.answered f 0x04 .pending [bankCode s.store.serving, 1, code]))
       ∧ (s.store.serving ≠ some target → s.store.requested ≠ some target →
         (s.store.serving = none ∨ s.acting.length = 0 → ∃ t, exec .switchBank s = .next t
           ∧ Answered s t f 0x04 .ok [code, 0, 0] ∧ t.store.serving = some target
           ∧ t.store.requested = none ∧ t.store.bankA = s.store.bankA ∧ t.store.bankB = s.store.bankB
           ∧ t.time = s.time ∧ t.zones = s.zones ∧ t.sessions = s.sessions ∧ t.link = s.link)
         ∧ (s.store.serving.isSome = true → s.acting.length ≠ 0 → s.trunk.txn.isSome = true →
           exec .switchBank s = .next (State.answered { s with
               store := { s.store with requested := some target }
               trunk := { s.trunk with rosterEmpty := false } }
             f 0x04 .pending [bankCode s.store.serving, 1, code]))))
  ∧ (∀ (s : State) (f : Frame) (src : Source), Taking s f src 0x05 [] → s.zones.plan src = true →
     (s.store.requested.isSome = true →
       exec .cancelSwitch s = .next (State.answered { s with store := { s.store with requested := none } }
         f 0x05 .cancelled [bankCode s.store.serving, 0, 0]))
     ∧ (s.store.requested = none →
       exec .cancelSwitch s = .next (s.answered f 0x05 .nothingPending [bankCode s.store.serving, 0, 0])))

/-- An advance of the roster pointer adds 1, or from the last position sets it to 0, the roster turn; with no
switch pending nothing else changes (R12, R148). A pending switch completes at the roster turn: the advance from
the last position makes the requested bank serving; an advance from another position completes nothing. The
completion (R13 to R16): a slot whose enabled field, unit weight, tare and members are the same in both banks keeps
its count, totals, last settled weight, motion and fault; its count is classified afresh, and a change of state
sets the acknowledged flag and the repeat deadline by Table 5-7 and re-arms the forecast on recovery; its forecast
is kept where L is the same in both banks and restarted where L differs (R15, R105). Every other slot, and every
slot when the serving bank was NONE, is UNKNOWN with no count, window or motion, keeping its totals and deficit-at-
open flag; its fault is decided by the fault test in the new bank, and none of its alerts but a FAULT is left
queued or held (R14). Then the target serves, with the roster pointer at 0 and the motion list empty. -/
def Obligations.SwitchCompletesAtTheTurnAndKeepsUnchangedSlots : Prop :=
  (∀ (s : State) (target : BankId), s.store.requested = some target →
     (s.trunk.rosterPtr + 1 = s.acting.length →
       (advanceRoster s).2 = true ∧ (advanceRoster s).1.store = { s.store with
         serving := some target, requested := none }
       ∧ (advanceRoster s).1.trunk.rosterPtr = 0 ∧ (advanceRoster s).1.trunk.motionList = [])
     ∧ (s.trunk.rosterPtr + 1 < s.acting.length →
       advanceRoster s = ({ s with trunk := { s.trunk with rosterPtr := s.trunk.rosterPtr + 1 } }, false)))
  ∧ (∀ s : State, s.store.requested = none →
     (s.trunk.rosterPtr + 1 = s.acting.length →
       advanceRoster s = ({ s with trunk := { s.trunk with rosterPtr := 0 } }, false))
     ∧ (s.trunk.rosterPtr + 1 < s.acting.length →
       advanceRoster s = ({ s with trunk := { s.trunk with rosterPtr := s.trunk.rosterPtr + 1 } }, false)))
  ∧ (∀ (target : BankId) (s : State),
     let old := s.acting
     let new := s.store.bank target
     let t := completeSwitch target s
     let kept := fun n => s.store.serving.isSome = true ∧ (old.cfg n).enabled = (new.cfg n).enabled
       ∧ (old.cfg n).unitWeight = (new.cfg n).unitWeight ∧ (old.cfg n).tare = (new.cfg n).tare
       ∧ old.members n = new.members n
     t.store = { s.store with serving := some target, requested := none }
     ∧ t.trunk = { s.trunk with rosterPtr := 0, motionList := [], motionPtr := 0, rosterEmpty := false }
     ∧ t.chans = s.chans ∧ t.sessions = s.sessions ∧ t.time = s.time ∧ t.zones = s.zones ∧ t.link = s.link
     ∧ (∀ n, kept n → t.slot n = { s.slot n with
         window := if (old.cfg n).width = (new.cfg n).width ∧ (old.cfg n).threshold = (new.cfg n).threshold
           ∧ (old.cfg n).band = (new.cfg n).band then (s.slot n).window else none
         streak := min (s.slot n).streak (new.cfg n).ambiguity.toNat
         stock := (t.slot n).stock, acked := (t.slot n).acked, deadline := (t.slot n).deadline
         removedSum := (t.slot n).removedSum, elapsed := (t.slot n).elapsed, rate := (t.slot n).rate
         projection := (t.slot n).projection, armed := (t.slot n).armed, held := (t.slot n).held })
     ∧ (∀ n, kept n → (new.cfg n).enabled = true → (s.slot n).stock ≠ .unknown → ∀ c, (s.slot n).count = some c →
         let before := (s.slot n).stock
         let after := classify (new.cfg n).reorder.toNat (new.cfg n).clear.toNat c before
         (t.slot n).stock = after
         ∧ (t.slot n).acked = (if after = before ∨ (before = .empty ∧ after = .low) then (s.slot n).acked
             else false)
         ∧ (t.slot n).deadline = if after = before then (s.slot n).deadline
             else if after = .stocked then none
             else if before = .empty ∧ after = .low then (s.slot n).deadline
             else some (s.minute + BitVec.ofNat 32 (new.cfg n).interval.toNat))
     ∧ (∀ n, kept n → ((new.cfg n).enabled = false ∨ (s.slot n).stock = .unknown) →
         (t.slot n).stock = (s.slot n).stock ∧ (t.slot n).acked = (s.slot n).acked
         ∧ (t.slot n).deadline = (s.slot n).deadline)
     ∧ (∀ n, kept n →
         let armed := if (s.slot n).stock.short ∧ (t.slot n).stock = .stocked then true else (s.slot n).armed
         if (old.cfg n).forecast = (new.cfg n).forecast then
           (t.slot n).removedSum = (s.slot n).removedSum ∧ (t.slot n).elapsed = (s.slot n).elapsed
           ∧ (t.slot n).rate = (s.slot n).rate ∧ (t.slot n).projection = (s.slot n).projection
           ∧ (t.slot n).armed = armed
         else (t.slot n).removedSum = 0
           ∧ (t.slot n).elapsed = (if (new.cfg n).forecast ≠ 0 ∧ (s.slot n).count.isSome then some 0 else none)
           ∧ (t.slot n).rate = none ∧ (t.slot n).projection = 65535
           ∧ (t.slot n).armed = if (new.cfg n).lead.toNat < 65535 then true else armed)
     ∧ (∀ n, ¬ kept n → t.slot n = { SlotLive.reset with
         fault := (t.slot n).fault, removed := (s.slot n).removed, putBack := (s.slot n).putBack
         replenished := (s.slot n).replenished, deficit := (s.slot n).deficit, held := (t.slot n).held })
     ∧ (∀ n, ¬ kept n →
         let silent := ∃ p ∈ new.liveMembers n, (s.node (nodeOf p.1)).state = .silent
         let bad := ∃ p ∈ new.liveMembers n, (s.chan p.1).badStreak = 3
         let clear := ∀ p ∈ new.liveMembers n,
           (s.node (nodeOf p.1)).state = .alive ∧ (s.chan p.1).badStreak = 0
         (t.slot n).fault = if (new.cfg n).enabled = false ∨ new.liveMembers n = [] then none
           else if (s.slot n).fault.isSome then (if clear then none else (s.slot n).fault)
           else if silent then some .nodeSilent else if bad then some .badSamples else none)
     ∧ (AlertsOk s → ∀ n, ¬ kept n →
         (∀ e, t.entry (.slot n) = some e → e.alert.kind = .fault)
         ∧ (∀ k, (t.slot n).held = some k → k = .fault)
         ∧ ∀ e, s.entry (.slot n) = some e → e.alert.kind = .fault → (t.entry (.slot n)).isSome = true))

/-! ## Rights, zones and captures (chapter 11) -/

/-- How a right is resolved (R180): PLAN and ADMIN by the source's entry alone; a slot right by the covering
zones together where any zone covers the slot, and by the default grant set where none does. An overlap can
only add rights, and a zone whose first slot is above its last decides nothing (R178). -/
def Obligations.RightsAreResolvedFromZonesThenDefaults : Prop :=
  ∀ (z : Zones) (src : Source) (right : SlotRight) (n : Slot),
    (z.plan src = (z.rights[src]).plan ∧ z.admin src = (z.rights[src]).admin)
    ∧ ((∃ i : Fin 4, (z.zones[i]).first ≤ n ∧ n ≤ (z.zones[i]).last) →
      (z.holds src right n = true ↔ ∃ i : Fin 4, (z.zones[i]).first ≤ n ∧ n ≤ (z.zones[i]).last
        ∧ ((z.zones[i]).grants[src]).holds right = true))
    ∧ ((∀ i : Fin 4, ¬ ((z.zones[i]).first ≤ n ∧ n ≤ (z.zones[i]).last)) →
      z.holds src right n = ((z.rights[src]).dflt).holds right)
    ∧ ∀ (i : Fin 4) (w : Zone), w.last < w.first → (z.zones[i]).last < (z.zones[i]).first →
      Zones.holds { z with zones := z.zones.set i w } src right n = z.holds src right n

/-- A denial (R185): an empty protection capture takes its source, request code, slot and time; a full one keeps
its record, sets its overflow flag and counts one more, up to 255. A request refused for want of PLAN or ADMIN
changes nothing but the capture and the response (R10, R11, R171, R174 to R176, R182 to R184). That a refusal
carries no results is assumption 9. -/
def Obligations.DenialsChangeOnlyTheCapture : Prop :=
  (∀ (s : State) (src : Source) (code : Byte) (slot : Option Slot),
     (s.zones.capture = none → s.denial src code slot = { s with zones := { s.zones with
       capture := some ⟨src, code, slot, s.time.seconds, false, 0⟩ } })
     ∧ ∀ c, s.zones.capture = some c → s.denial src code slot = { s with zones := { s.zones with
       capture := some ⟨c.source, c.code, c.slot, c.time, true, min 255 (c.overflowCount + 1)⟩ } })
  ∧ (∀ (s : State) (f : Frame) (src : Source) (args : List Byte),
     (s.zones.plan src = false →
       ∀ p ∈ [(Instr.copyBank, (0x03 : Byte)), (Instr.cancelSwitch, 0x05), (Instr.switchBank, 0x04)],
         Taking s f src p.2 args → (p.2 = 0x04 → args = [1] ∨ args = [2]) →
         exec p.1 s = .next ((s.denial src p.2 none).answered f p.2 .denied []))
     ∧ (s.zones.admin src = false →
       ∀ p ∈ [(Instr.clearCounters, (0x35 : Byte)), (Instr.readFaults, 0x36), (Instr.softReset, 0x3F),
           (Instr.lockZones, 0x22), (Instr.setZone, 0x20), (Instr.setSourceRights, 0x21)],
         Taking s f src p.2 args → (p.2 = 0x20 → (byteAt args 0).toNat ≤ 3) →
         (p.2 = 0x21 → (byteAt args 0).toNat ≤ 7) →
         exec p.1 s = .next ((s.denial src p.2 none).answered f p.2 .denied [])))

/-- SET_ZONE, SET_SOURCE_RIGHTS and LOCK_ZONES (R182 to R184): an index out of range is BAD_INDEX; while the
lock is set all three answer LOCKED and change nothing; otherwise the named zone or entry is replaced whole, or
the lock is set. OK and LOCKED carry the 49 bytes of tables as they stand afterwards. That a refusal carries no
results is assumption 9. -/
def Obligations.ZoneRequestsReplaceOneEntry : Prop :=
  ∀ (s : State) (f : Frame) (src : Source) (args : List Byte) (a : Byte), a = byteAt args 0 →
    (Taking s f src 0x20 args → 3 < a.toNat → exec .setZone s = .next (s.answered f 0x20 .badIndex []))
    ∧ (Taking s f src 0x21 args → 7 < a.toNat →
      exec .setSourceRights s = .next (s.answered f 0x21 .badIndex []))
    ∧ (s.zones.admin src = true →
      (s.zones.locked = true →
        ∀ p ∈ [(Instr.setZone, (0x20 : Byte)), (Instr.setSourceRights, 0x21), (Instr.lockZones, 0x22)],
          Taking s f src p.2 args → (p.2 = 0x20 → a.toNat ≤ 3) → (p.2 = 0x21 → a.toNat ≤ 7) →
          exec p.1 s = .next (s.answered f p.2 .locked s.zones.toBytes))
      ∧ (s.zones.locked = false →
        (∀ (i : Fin 4) (z : Zone), Taking s f src 0x20 args → i.val = a.toNat →
          z = ⟨slotOfByte (byteAt args 1), slotOfByte (byteAt args 2), Vector.ofFn fun j : Fin 8 =>
            ⟨(byteAt args (3 + j.val)).getLsbD 0, (byteAt args (3 + j.val)).getLsbD 1,
              (byteAt args (3 + j.val)).getLsbD 2⟩⟩ →
          ∃ t, exec .setZone s = .next (t.answered f 0x20 .ok t.zones.toBytes)
            ∧ t = { s with zones := { s.zones with zones := s.zones.zones.set i z } })
        ∧ (∀ (i : Source) (r : SourceRights), Taking s f src 0x21 args → i.val = a.toNat →
          r = ⟨(byteAt args 1).getLsbD 0, (byteAt args 1).getLsbD 1, ⟨(byteAt args 1).getLsbD 2,
            (byteAt args 1).getLsbD 3, (byteAt args 1).getLsbD 4⟩⟩ →
          ∃ t, exec .setSourceRights s = .next (t.answered f 0x21 .ok t.zones.toBytes)
            ∧ t = { s with zones := { s.zones with rights := s.zones.rights.set i r } })
        ∧ (Taking s f src 0x22 args → ∃ t, exec .lockZones s = .next (t.answered f 0x22 .ok t.zones.toBytes)
          ∧ t = { s with zones := { s.zones with locked := true } })))
    ∧ s.zones.toBytes.length = 49

/-- Rules of the whole machine. Every command completes in every state and leaves the queue of waiting commands
alone, and a step completes whether a command waits or not: that a command whose event the state does not admit
leaves the state as it is, is assumption 5, and that the block idles on an empty queue is assumption 2. Once
locked, the zone table and the source rights table keep their contents and the lock through every command but
POWER_ON and PIN_RESET, SOFT_RESET's reset point included (R178, R179, R184). Once a bank serves, some bank serves
until a POWER_ON or PIN_RESET, and no command changes the contents of the bank that serves when it is taken (R9,
R167). Only the two tick rows move the time base, and only POWER_ON and PIN_RESET set it back or sample the straps
(R18, R21, R161). -/
def Obligations.NoCommandStopsOrTouchesKeptState : Prop :=
  ((∀ (c : Instr) (s : State), ∃ t, exec c s = .next t ∧ t.pending = s.pending) ∧ ∀ s, SafeStep s)
  ∧ (∀ (c : Instr) (s t : State), s.zones.locked = true → (∀ k, c ≠ .powerOn k ∧ c ≠ .pinReset k) →
     exec c s = .next t →
     t.zones.zones = s.zones.zones ∧ t.zones.rights = s.zones.rights ∧ t.zones.locked = true)
  ∧ (∀ (c : Instr) (s t : State) (b : BankId), s.store.serving = some b →
     (∀ k, c ≠ .powerOn k ∧ c ≠ .pinReset k) → exec c s = .next t →
     t.store.serving.isSome = true ∧ t.store.bank b = s.store.bank b)
  ∧ (∀ (c : Instr) (s t : State), (∀ k, c ≠ .powerOn k ∧ c ≠ .pinReset k) → exec c s = .next t →
     t.strap = s.strap ∧ ((∀ o, c ≠ .oneSecondTick o ∧ c ≠ .minuteTick o) → t.time = s.time))

/-! ## Reads, counters, captures and SOFT_RESET (sections 10.3 to 10.5) -/

/-- A request that fails the header, code or shape check is answered and changes nothing (R166, R189): too
short, BAD_REQUEST with code 0; a source above 7, BAD_FIELD; an unknown code or a length that does not fit,
BAD_REQUEST. READ_STATUS and SOFT_RESET leave a request with such a source where it stands (assumption 5). That
a refusal carries no results is assumption 9. -/
def Obligations.UndefinedRequestIsAnsweredAndChangesNothing : Prop :=
  ∀ (s : State) (f : Frame), s.mgmt.response = none → s.mgmt.softReset = false →
    s.mgmt.requests.head? = some f →
    (f.payload.length < 2 → exec .undefinedRequest s = .next (s.answered f 0x00 .badRequest []))
    ∧ ∀ src code args, f.payload = src :: code :: args →
      (7 < src.toNat → exec .undefinedRequest s = .next (s.answered f code .badField [])
        ∧ exec .readStatus s = .next s ∧ exec .softReset s = .next s)
      ∧ (src.toNat ≤ 7 → requestShape code = none →
        exec .undefinedRequest s = .next (s.answered f code .badRequest []))
      ∧ (src.toNat ≤ 7 → ∀ sh, requestShape code = some sh → sh.fits args = false →
        exec .undefinedRequest s = .next (s.answered f code .badRequest []))

/-- The state reads (R173, R174). Those without arguments answer OK with their fields in the order of the rule.
READ_SLOT and READ_CHANNEL answer BAD_FIELD to a list of none or more than 8 names and otherwise report for each
name, in the order named, the fields R173 and R22 list; while the serving bank is NONE a slot is reported disabled
with no members and a channel UNROUTED. Nothing changes but the queue head and the response in hand. The form of
the bytes where the spec leaves it open is assumption 10, and that no count byte precedes the records is assumption
21. That a pending switch is sent as 1 is assumption 25. -/
def Obligations.StateReadsReportTheState : Prop :=
  (∀ (s : State) (f : Frame) (src : Source),
     (Taking s f src 0x30 [] → exec .readStatus s = .next (s.answered f 0x30 .ok (
       [bankCode s.store.serving, flagByte s.store.requested.isSome, bankCode s.store.requested,
         s.mgmt.cause.code] ++ beBytes 4 s.time.seconds.toNat ++ beBytes 4 s.time.minutes.toNat
       ++ [BitVec.ofNat 8 s.mgmt.requests.tail.length, BitVec.ofNat 8 s.link.returns.length,
         BitVec.ofNat 8 (s.alerts.countP (·.urgent)), BitVec.ofNat 8 (s.alerts.countP (!·.urgent))]
       ++ beBytes 2 (s.slots.toList.countP (·.held.isSome))
       ++ ((List.finRange 8).flatMap fun id =>
         let r := s.session id
         [BitVec.ofNat 8 id.val, flagByte r.isSome]
           ++ optBytes 1 (r.map (·.first.val)) ++ optBytes 1 (r.map (·.last.val))
           ++ optBytes 1 (r.map (·.opener.val)) ++ optBytes 4 (r.map (·.openedAt.toNat))
           ++ optBytes 4 (r.map (·.deadline.toNat)) ++ optBytes 4 (r.map (·.added.toNat)))
       ++ (BitVec.ofNat 8 s.trunk.motionList.length
         :: s.trunk.motionList.map fun n => BitVec.ofNat 8 (n.val + 1))
       ++ [flagByte s.zones.locked])))
     ∧ (Taking s f src 0x33 [] → exec .readNodes s = .next (s.answered f 0x33 .ok (
       s.trunk.nodes.toList.flatMap fun r => [r.state.code, BitVec.ofNat 8 r.streak]
         ++ beBytes 4 r.polls.toNat ++ beBytes 4 r.misses.toNat ++ beBytes 4 r.late.toNat)))
     ∧ (Taking s f src 0x34 [] → exec .readCounters s = .next (s.answered f 0x34 .ok (
       [s.mgmt.counters.gap, s.mgmt.counters.length, s.mgmt.counters.crc, s.mgmt.counters.framing,
         s.mgmt.counters.misdirected, s.mgmt.counters.requestDrop, s.mgmt.counters.forwardDrop,
         s.mgmt.counters.returnDrop, s.mgmt.counters.motionOverflow,
         s.mgmt.counters.queueOverflow].flatMap (beBytes 2)))))
  ∧ ∀ (s : State) (f : Frame) (src : Source) (args : List Byte),
     let slotFields := fun n : Slot =>
       let v := s.slot n
       let members := s.acting.members n
       ([flagByte (s.acting.cfg n).enabled, BitVec.ofNat 8 members.length]
         ++ members.flatMap (fun p => [BitVec.ofNat 8 p.1.val, BitVec.ofNat 8 p.2.source.code])
         ++ [v.fresh.setWidth 8, flagByte v.fault.isSome]
         ++ optBytes 1 (v.fault.map fun r => if r = .nodeSilent then 4 else 5)
         ++ (match v.window with
           | none => List.replicate 15 0
           | some w => [1, 1] ++ beInt 4 w.anchor ++ [1] ++ beInt 4 w.sum
             ++ [1, BitVec.ofNat 8 w.agree, 1, BitVec.ofNat 8 w.count])
         ++ [flagByte v.motion.isSome] ++ optBytes 4 (v.motion.map (·.toNat)) ++ [flagByte v.motionReported]
         ++ (match v.lastSettled with
           | none => [0, 0, 0, 0, 0]
           | some g => 1 :: beInt 4 g)
         ++ [v.stock.code] ++ optBytes 2 v.count ++ [flagByte v.acked] ++ optBytes 4 (v.deadline.map (·.toNat))
         ++ [BitVec.ofNat 8 v.streak, flagByte v.inspection.isSome]
         ++ optBytes 1 (v.inspection.map fun r => if r = .motion then 1 else if r = .ambiguous then 2 else 3)
         ++ beBytes 4 v.removed.toNat ++ beBytes 4 v.putBack.toNat ++ beBytes 4 v.replenished.toNat
         ++ beBytes 4 v.removedSum ++ optBytes 1 v.elapsed ++ optBytes 4 v.rate ++ beBytes 2 v.projection
         ++ [flagByte v.armed, flagByte v.deficit] ++ optBytes 1 ((s.coveringId n).map (·.val))
         ++ [flagByte v.held.isSome] ++ optBytes 1 (v.held.map (·.code)) : List Byte)
     let chanFields := fun c : Chan =>
       let r := s.chan c
       let m := s.acting.map c
       ((match r.lastRaw with
         | none => [0, 0, 0, 0, 0]
         | some x => 1 :: BitVec.ofNat 8 x.status.code :: beBytes 3 x.count.toNat)
         ++ (match r.lastGood with
           | none => [0, 0, 0, 0, 0]
           | some g => 1 :: beInt 4 g)
         ++ [BitVec.ofNat 8 r.badStreak, flagByte r.rezero, BitVec.ofNat 8 (m.route.elim 0 (·.val)),
           BitVec.ofNat 8 (m.route.isSome.toNat + 2 * m.source.code)] : List Byte)
     (Taking s f src 0x31 args → exec .readSlot s = .next (
       if args.length = 0 ∨ 8 < args.length then s.answered f 0x31 .badField []
       else s.answered f 0x31 .ok (args.flatMap fun a => slotFields (slotOfByte a))))
     ∧ (Taking s f src 0x32 args → exec .readChannel s = .next (
       if args.length = 0 ∨ 8 < args.length then s.answered f 0x32 .badField []
       else s.answered f 0x32 .ok (args.flatMap fun a => chanFields (slotOfByte a))))
     ∧ (s.store.serving = none → ∀ n : Slot, (slotFields n).take 2 = [0, 0] ∧ (chanFields n).drop 12 = [0, 0])

/-- CLEAR_COUNTERS zeroes the ten counters and the three counts of every node and nothing else (R174);
READ_FAULTS reports both captures and empties them (R175, R186), in the encoding of assumption 12; SOFT_RESET
answers OK, and from then on, with the response in hand or sent, no request is taken by any of the 21 request rows
(R176). That such a row leaves the state as it is, is assumption 5. -/
def Obligations.AdminRequestsClearReadAndReset : Prop :=
  (∀ (s : State) (f : Frame) (src : Source), s.zones.admin src = true →
    (Taking s f src 0x35 [] → exec .clearCounters s = .next (State.answered { s with
        mgmt := { s.mgmt with counters := ⟨0, 0, 0, 0, 0, 0, 0, 0, 0, 0⟩ }
        trunk := { s.trunk with
          nodes := s.trunk.nodes.map fun r => ⟨r.state, r.streak, 0, 0, 0⟩ } } f 0x35 .ok []))
    ∧ (Taking s f src 0x36 [] → exec .readFaults s = .next (State.answered { s with
        trunk := { s.trunk with capture := none }
        zones := { s.zones with capture := none } } f 0x36 .ok (
          (match s.trunk.capture with
            | some c => [1, BitVec.ofNat 8 (c.node.val + 1), 0] ++ beBytes 4 c.time.toNat
                ++ [flagByte c.overflow, BitVec.ofNat 8 c.overflowCount]
            | none => List.replicate 9 0)
          ++ (match s.zones.capture with
            | some c => [1, BitVec.ofNat 8 c.source.val, c.code]
                ++ optBytes 1 (c.slot.map fun n => n.val) ++ beBytes 4 c.time.toNat
                ++ [flagByte c.overflow, BitVec.ofNat 8 c.overflowCount]
            | none => List.replicate 11 0))))
    ∧ (Taking s f src 0x3F [] → exec .softReset s = .next (State.answered
        { s with mgmt := { s.mgmt with softReset := true } } f 0x3F .ok [])))
  ∧ ∀ s : State, s.mgmt.softReset = true →
    ∀ c ∈ [Instr.loadRecords, .readRecords, .copyBank, .switchBank, .cancelSwitch, .openRestock, .closeRestock,
        .ackSlot, .setAlertMask, .setZone, .setSourceRights, .lockZones, .readStatus, .readSlot, .readChannel,
        .readNodes, .readCounters, .clearCounters, .readFaults, .softReset, .undefinedRequest],
      exec c s = .next s

/-- A response cut into parts (R166, R189): part i bears the code, the status, its number from 0 and, on the
last alone, the mark; it carries up to 237 result bytes, and the results are the parts' bytes joined. -/
def Obligations.ResponsePartsCarryAllResultsInOrder : Prop :=
  ∀ (code : Byte) (status : Status) (results : List Byte), results.length ≤ 237 * 128 →
    let ps := responseParts code status results
    ps.length = max 1 ((results.length + 236) / 237)
    ∧ (∀ i p, ps[i]? = some p → p = code :: status.code
        :: BitVec.ofNat 8 (i + if i + 1 = ps.length then 128 else 0) :: (results.drop (237 * i)).take 237)
    ∧ ps.flatMap (fun p => p.drop 3) = results

/-! ## Invariants that every step keeps -/

/-- Right after reset every invariant holds. -/
def Obligations.ResetMeetsEveryInvariant : Prop :=
  AlertsOk State.reset ∧ SlotsOk State.reset ∧ StockOk State.reset ∧ StoreOk State.reset
    ∧ SessionsOk State.reset ∧ TrunkOk State.reset ∧ LinkOk State.reset

/-- The alert queue keeps its form (R123, R125, R131, R132): at most 64 entries with distinct keys, urgent
before normal, no slot both queued and held back, no place free while a slot is held back, and nothing of a
suppressed kind. -/
def Obligations.EveryStepKeepsTheAlertQueueInvariant : Prop :=
  ∀ s t : State, AlertsOk s → step s = .next t → AlertsOk t

/-- Every slot live record keeps its form (R36, R54, R56, R74, R106): a count exactly when not UNKNOWN, a
repeat deadline exactly when short, no window and no motion while faulted, its fields in range, and the
forecast at its reset values while UNKNOWN. -/
def Obligations.EveryStepKeepsTheSlotInvariant : Prop :=
  ∀ s t : State, SlotsOk s → step s = .next t → SlotsOk t

/-- Three invariants of their own. Both banks keep their form (R2 to R6), and a switch is pending only beside a
serving bank and toward the other (R9, R10). No slot ever comes to be covered by two open sessions (R109). The
trunk controller keeps its form (R138, R149, R150, R154, R156, Table 9-1), its roster pointer in range beside banks
whose roster lengths are (R6), and the queues and counters of the two lines, the overflow counts of both captures
and the minute phase keep their ranges (R18, R162, R163, R174, R185). -/
def Obligations.EveryStepKeepsTablesSessionsAndLines : Prop :=
  (∀ s t : State, StoreOk s → step s = .next t → StoreOk t)
  ∧ (∀ s t : State, SessionsOk s → step s = .next t → SessionsOk t)
  ∧ (∀ s t : State, StoreOk s → TrunkOk s → step s = .next t → TrunkOk t)
  ∧ (∀ s t : State, LinkOk s → step s = .next t → LinkOk t)

/-- The stock state agrees with the count and the serving bank's settings after every event, and a disabled
slot stays UNKNOWN and still (R33, R53, R75, R94). -/
def Obligations.EveryStepKeepsStockStatesInAgreement : Prop :=
  ∀ s t : State, StockOk s → SlotsOk s → StoreOk s → step s = .next t → StockOk t
end

