-- ==== Sys2Proof/Laws/State.lean ====
section
/-!
SUPPORT. One lemma for each field of the state under each named update, and for each reader under each update
it does not see, so that no proof unfolds a record update.
-/

namespace Sys2Proof.Machine

variable (s : State)

/-! ## modSlot -/

@[simp] theorem State.modSlot_time (n : Slot) (f : SlotLive → SlotLive) : (s.modSlot n f).time = s.time := rfl
@[simp] theorem State.modSlot_strap (n : Slot) (f : SlotLive → SlotLive) : (s.modSlot n f).strap = s.strap := rfl
@[simp] theorem State.modSlot_store (n : Slot) (f : SlotLive → SlotLive) : (s.modSlot n f).store = s.store := rfl
@[simp] theorem State.modSlot_chans (n : Slot) (f : SlotLive → SlotLive) : (s.modSlot n f).chans = s.chans := rfl
@[simp] theorem State.modSlot_slots (n : Slot) (f : SlotLive → SlotLive) : (s.modSlot n f).slots = s.slots.set n (f (s.slot n)) := rfl
@[simp] theorem State.modSlot_sessions (n : Slot) (f : SlotLive → SlotLive) : (s.modSlot n f).sessions = s.sessions := rfl
@[simp] theorem State.modSlot_alerts (n : Slot) (f : SlotLive → SlotLive) : (s.modSlot n f).alerts = s.alerts := rfl
@[simp] theorem State.modSlot_zones (n : Slot) (f : SlotLive → SlotLive) : (s.modSlot n f).zones = s.zones := rfl
@[simp] theorem State.modSlot_trunk (n : Slot) (f : SlotLive → SlotLive) : (s.modSlot n f).trunk = s.trunk := rfl
@[simp] theorem State.modSlot_link (n : Slot) (f : SlotLive → SlotLive) : (s.modSlot n f).link = s.link := rfl
@[simp] theorem State.modSlot_mgmt (n : Slot) (f : SlotLive → SlotLive) : (s.modSlot n f).mgmt = s.mgmt := rfl
@[simp] theorem State.modSlot_pending (n : Slot) (f : SlotLive → SlotLive) : (s.modSlot n f).pending = s.pending := rfl

/-! ## modChan -/

@[simp] theorem State.modChan_time (c : Chan) (f : ChanRec → ChanRec) : (s.modChan c f).time = s.time := rfl
@[simp] theorem State.modChan_strap (c : Chan) (f : ChanRec → ChanRec) : (s.modChan c f).strap = s.strap := rfl
@[simp] theorem State.modChan_store (c : Chan) (f : ChanRec → ChanRec) : (s.modChan c f).store = s.store := rfl
@[simp] theorem State.modChan_chans (c : Chan) (f : ChanRec → ChanRec) : (s.modChan c f).chans = s.chans.set c (f (s.chan c)) := rfl
@[simp] theorem State.modChan_slots (c : Chan) (f : ChanRec → ChanRec) : (s.modChan c f).slots = s.slots := rfl
@[simp] theorem State.modChan_sessions (c : Chan) (f : ChanRec → ChanRec) : (s.modChan c f).sessions = s.sessions := rfl
@[simp] theorem State.modChan_alerts (c : Chan) (f : ChanRec → ChanRec) : (s.modChan c f).alerts = s.alerts := rfl
@[simp] theorem State.modChan_zones (c : Chan) (f : ChanRec → ChanRec) : (s.modChan c f).zones = s.zones := rfl
@[simp] theorem State.modChan_trunk (c : Chan) (f : ChanRec → ChanRec) : (s.modChan c f).trunk = s.trunk := rfl
@[simp] theorem State.modChan_link (c : Chan) (f : ChanRec → ChanRec) : (s.modChan c f).link = s.link := rfl
@[simp] theorem State.modChan_mgmt (c : Chan) (f : ChanRec → ChanRec) : (s.modChan c f).mgmt = s.mgmt := rfl
@[simp] theorem State.modChan_pending (c : Chan) (f : ChanRec → ChanRec) : (s.modChan c f).pending = s.pending := rfl

/-! ## modTrunk -/

@[simp] theorem State.modTrunk_time (f : Trunk → Trunk) : (s.modTrunk f).time = s.time := rfl
@[simp] theorem State.modTrunk_strap (f : Trunk → Trunk) : (s.modTrunk f).strap = s.strap := rfl
@[simp] theorem State.modTrunk_store (f : Trunk → Trunk) : (s.modTrunk f).store = s.store := rfl
@[simp] theorem State.modTrunk_chans (f : Trunk → Trunk) : (s.modTrunk f).chans = s.chans := rfl
@[simp] theorem State.modTrunk_slots (f : Trunk → Trunk) : (s.modTrunk f).slots = s.slots := rfl
@[simp] theorem State.modTrunk_sessions (f : Trunk → Trunk) : (s.modTrunk f).sessions = s.sessions := rfl
@[simp] theorem State.modTrunk_alerts (f : Trunk → Trunk) : (s.modTrunk f).alerts = s.alerts := rfl
@[simp] theorem State.modTrunk_zones (f : Trunk → Trunk) : (s.modTrunk f).zones = s.zones := rfl
@[simp] theorem State.modTrunk_trunk (f : Trunk → Trunk) : (s.modTrunk f).trunk = f s.trunk := rfl
@[simp] theorem State.modTrunk_link (f : Trunk → Trunk) : (s.modTrunk f).link = s.link := rfl
@[simp] theorem State.modTrunk_mgmt (f : Trunk → Trunk) : (s.modTrunk f).mgmt = s.mgmt := rfl
@[simp] theorem State.modTrunk_pending (f : Trunk → Trunk) : (s.modTrunk f).pending = s.pending := rfl

/-! ## modNode -/

@[simp] theorem State.modNode_time (n : Node) (f : NodeRec → NodeRec) : (s.modNode n f).time = s.time := rfl
@[simp] theorem State.modNode_strap (n : Node) (f : NodeRec → NodeRec) : (s.modNode n f).strap = s.strap := rfl
@[simp] theorem State.modNode_store (n : Node) (f : NodeRec → NodeRec) : (s.modNode n f).store = s.store := rfl
@[simp] theorem State.modNode_chans (n : Node) (f : NodeRec → NodeRec) : (s.modNode n f).chans = s.chans := rfl
@[simp] theorem State.modNode_slots (n : Node) (f : NodeRec → NodeRec) : (s.modNode n f).slots = s.slots := rfl
@[simp] theorem State.modNode_sessions (n : Node) (f : NodeRec → NodeRec) : (s.modNode n f).sessions = s.sessions := rfl
@[simp] theorem State.modNode_alerts (n : Node) (f : NodeRec → NodeRec) : (s.modNode n f).alerts = s.alerts := rfl
@[simp] theorem State.modNode_zones (n : Node) (f : NodeRec → NodeRec) : (s.modNode n f).zones = s.zones := rfl
@[simp] theorem State.modNode_trunk (n : Node) (f : NodeRec → NodeRec) : (s.modNode n f).trunk = { s.trunk with nodes := s.trunk.nodes.set n (f (s.node n)) } := rfl
@[simp] theorem State.modNode_link (n : Node) (f : NodeRec → NodeRec) : (s.modNode n f).link = s.link := rfl
@[simp] theorem State.modNode_mgmt (n : Node) (f : NodeRec → NodeRec) : (s.modNode n f).mgmt = s.mgmt := rfl
@[simp] theorem State.modNode_pending (n : Node) (f : NodeRec → NodeRec) : (s.modNode n f).pending = s.pending := rfl

/-! ## setSession -/

@[simp] theorem State.setSession_time (id : SessionId) (r : Option Session) : (s.setSession id r).time = s.time := rfl
@[simp] theorem State.setSession_strap (id : SessionId) (r : Option Session) : (s.setSession id r).strap = s.strap := rfl
@[simp] theorem State.setSession_store (id : SessionId) (r : Option Session) : (s.setSession id r).store = s.store := rfl
@[simp] theorem State.setSession_chans (id : SessionId) (r : Option Session) : (s.setSession id r).chans = s.chans := rfl
@[simp] theorem State.setSession_slots (id : SessionId) (r : Option Session) : (s.setSession id r).slots = s.slots := rfl
@[simp] theorem State.setSession_sessions (id : SessionId) (r : Option Session) : (s.setSession id r).sessions = s.sessions.set id r := rfl
@[simp] theorem State.setSession_alerts (id : SessionId) (r : Option Session) : (s.setSession id r).alerts = s.alerts := rfl
@[simp] theorem State.setSession_zones (id : SessionId) (r : Option Session) : (s.setSession id r).zones = s.zones := rfl
@[simp] theorem State.setSession_trunk (id : SessionId) (r : Option Session) : (s.setSession id r).trunk = s.trunk := rfl
@[simp] theorem State.setSession_link (id : SessionId) (r : Option Session) : (s.setSession id r).link = s.link := rfl
@[simp] theorem State.setSession_mgmt (id : SessionId) (r : Option Session) : (s.setSession id r).mgmt = s.mgmt := rfl
@[simp] theorem State.setSession_pending (id : SessionId) (r : Option Session) : (s.setSession id r).pending = s.pending := rfl

/-! ## setAlerts -/

@[simp] theorem State.setAlerts_time (q : List AlertEntry) : (s.setAlerts q).time = s.time := rfl
@[simp] theorem State.setAlerts_strap (q : List AlertEntry) : (s.setAlerts q).strap = s.strap := rfl
@[simp] theorem State.setAlerts_store (q : List AlertEntry) : (s.setAlerts q).store = s.store := rfl
@[simp] theorem State.setAlerts_chans (q : List AlertEntry) : (s.setAlerts q).chans = s.chans := rfl
@[simp] theorem State.setAlerts_slots (q : List AlertEntry) : (s.setAlerts q).slots = s.slots := rfl
@[simp] theorem State.setAlerts_sessions (q : List AlertEntry) : (s.setAlerts q).sessions = s.sessions := rfl
@[simp] theorem State.setAlerts_alerts (q : List AlertEntry) : (s.setAlerts q).alerts = q := rfl
@[simp] theorem State.setAlerts_zones (q : List AlertEntry) : (s.setAlerts q).zones = s.zones := rfl
@[simp] theorem State.setAlerts_trunk (q : List AlertEntry) : (s.setAlerts q).trunk = s.trunk := rfl
@[simp] theorem State.setAlerts_link (q : List AlertEntry) : (s.setAlerts q).link = s.link := rfl
@[simp] theorem State.setAlerts_mgmt (q : List AlertEntry) : (s.setAlerts q).mgmt = s.mgmt := rfl
@[simp] theorem State.setAlerts_pending (q : List AlertEntry) : (s.setAlerts q).pending = s.pending := rfl

/-! ## modLink -/

@[simp] theorem State.modLink_time (f : AisleLink → AisleLink) : (s.modLink f).time = s.time := rfl
@[simp] theorem State.modLink_strap (f : AisleLink → AisleLink) : (s.modLink f).strap = s.strap := rfl
@[simp] theorem State.modLink_store (f : AisleLink → AisleLink) : (s.modLink f).store = s.store := rfl
@[simp] theorem State.modLink_chans (f : AisleLink → AisleLink) : (s.modLink f).chans = s.chans := rfl
@[simp] theorem State.modLink_slots (f : AisleLink → AisleLink) : (s.modLink f).slots = s.slots := rfl
@[simp] theorem State.modLink_sessions (f : AisleLink → AisleLink) : (s.modLink f).sessions = s.sessions := rfl
@[simp] theorem State.modLink_alerts (f : AisleLink → AisleLink) : (s.modLink f).alerts = s.alerts := rfl
@[simp] theorem State.modLink_zones (f : AisleLink → AisleLink) : (s.modLink f).zones = s.zones := rfl
@[simp] theorem State.modLink_trunk (f : AisleLink → AisleLink) : (s.modLink f).trunk = s.trunk := rfl
@[simp] theorem State.modLink_link (f : AisleLink → AisleLink) : (s.modLink f).link = f s.link := rfl
@[simp] theorem State.modLink_mgmt (f : AisleLink → AisleLink) : (s.modLink f).mgmt = s.mgmt := rfl
@[simp] theorem State.modLink_pending (f : AisleLink → AisleLink) : (s.modLink f).pending = s.pending := rfl

/-! ## modMgmt -/

@[simp] theorem State.modMgmt_time (f : Mgmt → Mgmt) : (s.modMgmt f).time = s.time := rfl
@[simp] theorem State.modMgmt_strap (f : Mgmt → Mgmt) : (s.modMgmt f).strap = s.strap := rfl
@[simp] theorem State.modMgmt_store (f : Mgmt → Mgmt) : (s.modMgmt f).store = s.store := rfl
@[simp] theorem State.modMgmt_chans (f : Mgmt → Mgmt) : (s.modMgmt f).chans = s.chans := rfl
@[simp] theorem State.modMgmt_slots (f : Mgmt → Mgmt) : (s.modMgmt f).slots = s.slots := rfl
@[simp] theorem State.modMgmt_sessions (f : Mgmt → Mgmt) : (s.modMgmt f).sessions = s.sessions := rfl
@[simp] theorem State.modMgmt_alerts (f : Mgmt → Mgmt) : (s.modMgmt f).alerts = s.alerts := rfl
@[simp] theorem State.modMgmt_zones (f : Mgmt → Mgmt) : (s.modMgmt f).zones = s.zones := rfl
@[simp] theorem State.modMgmt_trunk (f : Mgmt → Mgmt) : (s.modMgmt f).trunk = s.trunk := rfl
@[simp] theorem State.modMgmt_link (f : Mgmt → Mgmt) : (s.modMgmt f).link = s.link := rfl
@[simp] theorem State.modMgmt_mgmt (f : Mgmt → Mgmt) : (s.modMgmt f).mgmt = f s.mgmt := rfl
@[simp] theorem State.modMgmt_pending (f : Mgmt → Mgmt) : (s.modMgmt f).pending = s.pending := rfl

/-! ## modCounters -/

@[simp] theorem State.modCounters_time (f : Counters → Counters) : (s.modCounters f).time = s.time := rfl
@[simp] theorem State.modCounters_strap (f : Counters → Counters) : (s.modCounters f).strap = s.strap := rfl
@[simp] theorem State.modCounters_store (f : Counters → Counters) : (s.modCounters f).store = s.store := rfl
@[simp] theorem State.modCounters_chans (f : Counters → Counters) : (s.modCounters f).chans = s.chans := rfl
@[simp] theorem State.modCounters_slots (f : Counters → Counters) : (s.modCounters f).slots = s.slots := rfl
@[simp] theorem State.modCounters_sessions (f : Counters → Counters) : (s.modCounters f).sessions = s.sessions := rfl
@[simp] theorem State.modCounters_alerts (f : Counters → Counters) : (s.modCounters f).alerts = s.alerts := rfl
@[simp] theorem State.modCounters_zones (f : Counters → Counters) : (s.modCounters f).zones = s.zones := rfl
@[simp] theorem State.modCounters_trunk (f : Counters → Counters) : (s.modCounters f).trunk = s.trunk := rfl
@[simp] theorem State.modCounters_link (f : Counters → Counters) : (s.modCounters f).link = s.link := rfl
@[simp] theorem State.modCounters_mgmt (f : Counters → Counters) : (s.modCounters f).mgmt = { s.mgmt with counters := f s.mgmt.counters } := rfl
@[simp] theorem State.modCounters_pending (f : Counters → Counters) : (s.modCounters f).pending = s.pending := rfl

/-! ## modStore -/

@[simp] theorem State.modStore_time (f : TableStore → TableStore) : (s.modStore f).time = s.time := rfl
@[simp] theorem State.modStore_strap (f : TableStore → TableStore) : (s.modStore f).strap = s.strap := rfl
@[simp] theorem State.modStore_store (f : TableStore → TableStore) : (s.modStore f).store = f s.store := rfl
@[simp] theorem State.modStore_chans (f : TableStore → TableStore) : (s.modStore f).chans = s.chans := rfl
@[simp] theorem State.modStore_slots (f : TableStore → TableStore) : (s.modStore f).slots = s.slots := rfl
@[simp] theorem State.modStore_sessions (f : TableStore → TableStore) : (s.modStore f).sessions = s.sessions := rfl
@[simp] theorem State.modStore_alerts (f : TableStore → TableStore) : (s.modStore f).alerts = s.alerts := rfl
@[simp] theorem State.modStore_zones (f : TableStore → TableStore) : (s.modStore f).zones = s.zones := rfl
@[simp] theorem State.modStore_trunk (f : TableStore → TableStore) : (s.modStore f).trunk = s.trunk := rfl
@[simp] theorem State.modStore_link (f : TableStore → TableStore) : (s.modStore f).link = s.link := rfl
@[simp] theorem State.modStore_mgmt (f : TableStore → TableStore) : (s.modStore f).mgmt = s.mgmt := rfl
@[simp] theorem State.modStore_pending (f : TableStore → TableStore) : (s.modStore f).pending = s.pending := rfl

/-! ## modZones -/

@[simp] theorem State.modZones_time (f : Zones → Zones) : (s.modZones f).time = s.time := rfl
@[simp] theorem State.modZones_strap (f : Zones → Zones) : (s.modZones f).strap = s.strap := rfl
@[simp] theorem State.modZones_store (f : Zones → Zones) : (s.modZones f).store = s.store := rfl
@[simp] theorem State.modZones_chans (f : Zones → Zones) : (s.modZones f).chans = s.chans := rfl
@[simp] theorem State.modZones_slots (f : Zones → Zones) : (s.modZones f).slots = s.slots := rfl
@[simp] theorem State.modZones_sessions (f : Zones → Zones) : (s.modZones f).sessions = s.sessions := rfl
@[simp] theorem State.modZones_alerts (f : Zones → Zones) : (s.modZones f).alerts = s.alerts := rfl
@[simp] theorem State.modZones_zones (f : Zones → Zones) : (s.modZones f).zones = f s.zones := rfl
@[simp] theorem State.modZones_trunk (f : Zones → Zones) : (s.modZones f).trunk = s.trunk := rfl
@[simp] theorem State.modZones_link (f : Zones → Zones) : (s.modZones f).link = s.link := rfl
@[simp] theorem State.modZones_mgmt (f : Zones → Zones) : (s.modZones f).mgmt = s.mgmt := rfl
@[simp] theorem State.modZones_pending (f : Zones → Zones) : (s.modZones f).pending = s.pending := rfl

/-! ## Readers under updates they do not see -/

@[simp] theorem State.chan_modSlot (n : Slot) (f : SlotLive → SlotLive) (d : Chan) : (s.modSlot n f).chan d = s.chan d := rfl
@[simp] theorem State.node_modSlot (n : Slot) (f : SlotLive → SlotLive) (m : Node) : (s.modSlot n f).node m = s.node m := rfl
@[simp] theorem State.session_modSlot (n : Slot) (f : SlotLive → SlotLive) (i : SessionId) : (s.modSlot n f).session i = s.session i := rfl
@[simp] theorem State.entry_modSlot (n : Slot) (f : SlotLive → SlotLive) (k : AlertKey) : (s.modSlot n f).entry k = s.entry k := rfl
@[simp] theorem State.acting_modSlot (n : Slot) (f : SlotLive → SlotLive) : (s.modSlot n f).acting = s.acting := rfl
@[simp] theorem State.now_modSlot (n : Slot) (f : SlotLive → SlotLive) : (s.modSlot n f).now = s.now := rfl
@[simp] theorem State.minute_modSlot (n : Slot) (f : SlotLive → SlotLive) : (s.modSlot n f).minute = s.minute := rfl
@[simp] theorem State.ownStation_modSlot (n : Slot) (f : SlotLive → SlotLive) : (s.modSlot n f).ownStation = s.ownStation := rfl
@[simp] theorem State.coveringId_modSlot (n : Slot) (f : SlotLive → SlotLive) (m : Slot) : (s.modSlot n f).coveringId m = s.coveringId m := rfl
@[simp] theorem State.covered_modSlot (n : Slot) (f : SlotLive → SlotLive) (m : Slot) : (s.modSlot n f).covered m = s.covered m := rfl

@[simp] theorem State.slot_modChan (c : Chan) (f : ChanRec → ChanRec) (m : Slot) : (s.modChan c f).slot m = s.slot m := rfl
@[simp] theorem State.node_modChan (c : Chan) (f : ChanRec → ChanRec) (m : Node) : (s.modChan c f).node m = s.node m := rfl
@[simp] theorem State.session_modChan (c : Chan) (f : ChanRec → ChanRec) (i : SessionId) : (s.modChan c f).session i = s.session i := rfl
@[simp] theorem State.entry_modChan (c : Chan) (f : ChanRec → ChanRec) (k : AlertKey) : (s.modChan c f).entry k = s.entry k := rfl
@[simp] theorem State.acting_modChan (c : Chan) (f : ChanRec → ChanRec) : (s.modChan c f).acting = s.acting := rfl
@[simp] theorem State.now_modChan (c : Chan) (f : ChanRec → ChanRec) : (s.modChan c f).now = s.now := rfl
@[simp] theorem State.minute_modChan (c : Chan) (f : ChanRec → ChanRec) : (s.modChan c f).minute = s.minute := rfl
@[simp] theorem State.ownStation_modChan (c : Chan) (f : ChanRec → ChanRec) : (s.modChan c f).ownStation = s.ownStation := rfl
@[simp] theorem State.coveringId_modChan (c : Chan) (f : ChanRec → ChanRec) (m : Slot) : (s.modChan c f).coveringId m = s.coveringId m := rfl
@[simp] theorem State.covered_modChan (c : Chan) (f : ChanRec → ChanRec) (m : Slot) : (s.modChan c f).covered m = s.covered m := rfl
@[simp] theorem State.lowestHeld_modChan (c : Chan) (f : ChanRec → ChanRec) : (s.modChan c f).lowestHeld = s.lowestHeld := rfl

@[simp] theorem State.slot_modTrunk (f : Trunk → Trunk) (m : Slot) : (s.modTrunk f).slot m = s.slot m := rfl
@[simp] theorem State.chan_modTrunk (f : Trunk → Trunk) (d : Chan) : (s.modTrunk f).chan d = s.chan d := rfl
@[simp] theorem State.session_modTrunk (f : Trunk → Trunk) (i : SessionId) : (s.modTrunk f).session i = s.session i := rfl
@[simp] theorem State.entry_modTrunk (f : Trunk → Trunk) (k : AlertKey) : (s.modTrunk f).entry k = s.entry k := rfl
@[simp] theorem State.acting_modTrunk (f : Trunk → Trunk) : (s.modTrunk f).acting = s.acting := rfl
@[simp] theorem State.now_modTrunk (f : Trunk → Trunk) : (s.modTrunk f).now = s.now := rfl
@[simp] theorem State.minute_modTrunk (f : Trunk → Trunk) : (s.modTrunk f).minute = s.minute := rfl
@[simp] theorem State.ownStation_modTrunk (f : Trunk → Trunk) : (s.modTrunk f).ownStation = s.ownStation := rfl
@[simp] theorem State.coveringId_modTrunk (f : Trunk → Trunk) (m : Slot) : (s.modTrunk f).coveringId m = s.coveringId m := rfl
@[simp] theorem State.covered_modTrunk (f : Trunk → Trunk) (m : Slot) : (s.modTrunk f).covered m = s.covered m := rfl
@[simp] theorem State.lowestHeld_modTrunk (f : Trunk → Trunk) : (s.modTrunk f).lowestHeld = s.lowestHeld := rfl

@[simp] theorem State.slot_modNode (n : Node) (f : NodeRec → NodeRec) (m : Slot) : (s.modNode n f).slot m = s.slot m := rfl
@[simp] theorem State.chan_modNode (n : Node) (f : NodeRec → NodeRec) (d : Chan) : (s.modNode n f).chan d = s.chan d := rfl
@[simp] theorem State.session_modNode (n : Node) (f : NodeRec → NodeRec) (i : SessionId) : (s.modNode n f).session i = s.session i := rfl
@[simp] theorem State.entry_modNode (n : Node) (f : NodeRec → NodeRec) (k : AlertKey) : (s.modNode n f).entry k = s.entry k := rfl
@[simp] theorem State.acting_modNode (n : Node) (f : NodeRec → NodeRec) : (s.modNode n f).acting = s.acting := rfl
@[simp] theorem State.now_modNode (n : Node) (f : NodeRec → NodeRec) : (s.modNode n f).now = s.now := rfl
@[simp] theorem State.minute_modNode (n : Node) (f : NodeRec → NodeRec) : (s.modNode n f).minute = s.minute := rfl
@[simp] theorem State.ownStation_modNode (n : Node) (f : NodeRec → NodeRec) : (s.modNode n f).ownStation = s.ownStation := rfl
@[simp] theorem State.coveringId_modNode (n : Node) (f : NodeRec → NodeRec) (m : Slot) : (s.modNode n f).coveringId m = s.coveringId m := rfl
@[simp] theorem State.covered_modNode (n : Node) (f : NodeRec → NodeRec) (m : Slot) : (s.modNode n f).covered m = s.covered m := rfl
@[simp] theorem State.lowestHeld_modNode (n : Node) (f : NodeRec → NodeRec) : (s.modNode n f).lowestHeld = s.lowestHeld := rfl

@[simp] theorem State.slot_setSession (id : SessionId) (r : Option Session) (m : Slot) : (s.setSession id r).slot m = s.slot m := rfl
@[simp] theorem State.chan_setSession (id : SessionId) (r : Option Session) (d : Chan) : (s.setSession id r).chan d = s.chan d := rfl
@[simp] theorem State.node_setSession (id : SessionId) (r : Option Session) (m : Node) : (s.setSession id r).node m = s.node m := rfl
@[simp] theorem State.entry_setSession (id : SessionId) (r : Option Session) (k : AlertKey) : (s.setSession id r).entry k = s.entry k := rfl
@[simp] theorem State.acting_setSession (id : SessionId) (r : Option Session) : (s.setSession id r).acting = s.acting := rfl
@[simp] theorem State.now_setSession (id : SessionId) (r : Option Session) : (s.setSession id r).now = s.now := rfl
@[simp] theorem State.minute_setSession (id : SessionId) (r : Option Session) : (s.setSession id r).minute = s.minute := rfl
@[simp] theorem State.ownStation_setSession (id : SessionId) (r : Option Session) : (s.setSession id r).ownStation = s.ownStation := rfl
@[simp] theorem State.lowestHeld_setSession (id : SessionId) (r : Option Session) : (s.setSession id r).lowestHeld = s.lowestHeld := rfl

@[simp] theorem State.slot_setAlerts (q : List AlertEntry) (m : Slot) : (s.setAlerts q).slot m = s.slot m := rfl
@[simp] theorem State.chan_setAlerts (q : List AlertEntry) (d : Chan) : (s.setAlerts q).chan d = s.chan d := rfl
@[simp] theorem State.node_setAlerts (q : List AlertEntry) (m : Node) : (s.setAlerts q).node m = s.node m := rfl
@[simp] theorem State.session_setAlerts (q : List AlertEntry) (i : SessionId) : (s.setAlerts q).session i = s.session i := rfl
@[simp] theorem State.acting_setAlerts (q : List AlertEntry) : (s.setAlerts q).acting = s.acting := rfl
@[simp] theorem State.now_setAlerts (q : List AlertEntry) : (s.setAlerts q).now = s.now := rfl
@[simp] theorem State.minute_setAlerts (q : List AlertEntry) : (s.setAlerts q).minute = s.minute := rfl
@[simp] theorem State.ownStation_setAlerts (q : List AlertEntry) : (s.setAlerts q).ownStation = s.ownStation := rfl
@[simp] theorem State.coveringId_setAlerts (q : List AlertEntry) (m : Slot) : (s.setAlerts q).coveringId m = s.coveringId m := rfl
@[simp] theorem State.covered_setAlerts (q : List AlertEntry) (m : Slot) : (s.setAlerts q).covered m = s.covered m := rfl
@[simp] theorem State.lowestHeld_setAlerts (q : List AlertEntry) : (s.setAlerts q).lowestHeld = s.lowestHeld := rfl

@[simp] theorem State.slot_modLink (f : AisleLink → AisleLink) (m : Slot) : (s.modLink f).slot m = s.slot m := rfl
@[simp] theorem State.chan_modLink (f : AisleLink → AisleLink) (d : Chan) : (s.modLink f).chan d = s.chan d := rfl
@[simp] theorem State.node_modLink (f : AisleLink → AisleLink) (m : Node) : (s.modLink f).node m = s.node m := rfl
@[simp] theorem State.session_modLink (f : AisleLink → AisleLink) (i : SessionId) : (s.modLink f).session i = s.session i := rfl
@[simp] theorem State.entry_modLink (f : AisleLink → AisleLink) (k : AlertKey) : (s.modLink f).entry k = s.entry k := rfl
@[simp] theorem State.acting_modLink (f : AisleLink → AisleLink) : (s.modLink f).acting = s.acting := rfl
@[simp] theorem State.now_modLink (f : AisleLink → AisleLink) : (s.modLink f).now = s.now := rfl
@[simp] theorem State.minute_modLink (f : AisleLink → AisleLink) : (s.modLink f).minute = s.minute := rfl
@[simp] theorem State.ownStation_modLink (f : AisleLink → AisleLink) : (s.modLink f).ownStation = s.ownStation := rfl
@[simp] theorem State.coveringId_modLink (f : AisleLink → AisleLink) (m : Slot) : (s.modLink f).coveringId m = s.coveringId m := rfl
@[simp] theorem State.covered_modLink (f : AisleLink → AisleLink) (m : Slot) : (s.modLink f).covered m = s.covered m := rfl
@[simp] theorem State.lowestHeld_modLink (f : AisleLink → AisleLink) : (s.modLink f).lowestHeld = s.lowestHeld := rfl

@[simp] theorem State.slot_modMgmt (f : Mgmt → Mgmt) (m : Slot) : (s.modMgmt f).slot m = s.slot m := rfl
@[simp] theorem State.chan_modMgmt (f : Mgmt → Mgmt) (d : Chan) : (s.modMgmt f).chan d = s.chan d := rfl
@[simp] theorem State.node_modMgmt (f : Mgmt → Mgmt) (m : Node) : (s.modMgmt f).node m = s.node m := rfl
@[simp] theorem State.session_modMgmt (f : Mgmt → Mgmt) (i : SessionId) : (s.modMgmt f).session i = s.session i := rfl
@[simp] theorem State.entry_modMgmt (f : Mgmt → Mgmt) (k : AlertKey) : (s.modMgmt f).entry k = s.entry k := rfl
@[simp] theorem State.acting_modMgmt (f : Mgmt → Mgmt) : (s.modMgmt f).acting = s.acting := rfl
@[simp] theorem State.now_modMgmt (f : Mgmt → Mgmt) : (s.modMgmt f).now = s.now := rfl
@[simp] theorem State.minute_modMgmt (f : Mgmt → Mgmt) : (s.modMgmt f).minute = s.minute := rfl
@[simp] theorem State.ownStation_modMgmt (f : Mgmt → Mgmt) : (s.modMgmt f).ownStation = s.ownStation := rfl
@[simp] theorem State.coveringId_modMgmt (f : Mgmt → Mgmt) (m : Slot) : (s.modMgmt f).coveringId m = s.coveringId m := rfl
@[simp] theorem State.covered_modMgmt (f : Mgmt → Mgmt) (m : Slot) : (s.modMgmt f).covered m = s.covered m := rfl
@[simp] theorem State.lowestHeld_modMgmt (f : Mgmt → Mgmt) : (s.modMgmt f).lowestHeld = s.lowestHeld := rfl

@[simp] theorem State.slot_modCounters (f : Counters → Counters) (m : Slot) : (s.modCounters f).slot m = s.slot m := rfl
@[simp] theorem State.chan_modCounters (f : Counters → Counters) (d : Chan) : (s.modCounters f).chan d = s.chan d := rfl
@[simp] theorem State.node_modCounters (f : Counters → Counters) (m : Node) : (s.modCounters f).node m = s.node m := rfl
@[simp] theorem State.session_modCounters (f : Counters → Counters) (i : SessionId) : (s.modCounters f).session i = s.session i := rfl
@[simp] theorem State.entry_modCounters (f : Counters → Counters) (k : AlertKey) : (s.modCounters f).entry k = s.entry k := rfl
@[simp] theorem State.acting_modCounters (f : Counters → Counters) : (s.modCounters f).acting = s.acting := rfl
@[simp] theorem State.now_modCounters (f : Counters → Counters) : (s.modCounters f).now = s.now := rfl
@[simp] theorem State.minute_modCounters (f : Counters → Counters) : (s.modCounters f).minute = s.minute := rfl
@[simp] theorem State.ownStation_modCounters (f : Counters → Counters) : (s.modCounters f).ownStation = s.ownStation := rfl
@[simp] theorem State.coveringId_modCounters (f : Counters → Counters) (m : Slot) : (s.modCounters f).coveringId m = s.coveringId m := rfl
@[simp] theorem State.covered_modCounters (f : Counters → Counters) (m : Slot) : (s.modCounters f).covered m = s.covered m := rfl
@[simp] theorem State.lowestHeld_modCounters (f : Counters → Counters) : (s.modCounters f).lowestHeld = s.lowestHeld := rfl

@[simp] theorem State.slot_modStore (f : TableStore → TableStore) (m : Slot) : (s.modStore f).slot m = s.slot m := rfl
@[simp] theorem State.chan_modStore (f : TableStore → TableStore) (d : Chan) : (s.modStore f).chan d = s.chan d := rfl
@[simp] theorem State.node_modStore (f : TableStore → TableStore) (m : Node) : (s.modStore f).node m = s.node m := rfl
@[simp] theorem State.session_modStore (f : TableStore → TableStore) (i : SessionId) : (s.modStore f).session i = s.session i := rfl
@[simp] theorem State.entry_modStore (f : TableStore → TableStore) (k : AlertKey) : (s.modStore f).entry k = s.entry k := rfl
@[simp] theorem State.now_modStore (f : TableStore → TableStore) : (s.modStore f).now = s.now := rfl
@[simp] theorem State.minute_modStore (f : TableStore → TableStore) : (s.modStore f).minute = s.minute := rfl
@[simp] theorem State.ownStation_modStore (f : TableStore → TableStore) : (s.modStore f).ownStation = s.ownStation := rfl
@[simp] theorem State.coveringId_modStore (f : TableStore → TableStore) (m : Slot) : (s.modStore f).coveringId m = s.coveringId m := rfl
@[simp] theorem State.covered_modStore (f : TableStore → TableStore) (m : Slot) : (s.modStore f).covered m = s.covered m := rfl
@[simp] theorem State.lowestHeld_modStore (f : TableStore → TableStore) : (s.modStore f).lowestHeld = s.lowestHeld := rfl

@[simp] theorem State.slot_modZones (f : Zones → Zones) (m : Slot) : (s.modZones f).slot m = s.slot m := rfl
@[simp] theorem State.chan_modZones (f : Zones → Zones) (d : Chan) : (s.modZones f).chan d = s.chan d := rfl
@[simp] theorem State.node_modZones (f : Zones → Zones) (m : Node) : (s.modZones f).node m = s.node m := rfl
@[simp] theorem State.session_modZones (f : Zones → Zones) (i : SessionId) : (s.modZones f).session i = s.session i := rfl
@[simp] theorem State.entry_modZones (f : Zones → Zones) (k : AlertKey) : (s.modZones f).entry k = s.entry k := rfl
@[simp] theorem State.acting_modZones (f : Zones → Zones) : (s.modZones f).acting = s.acting := rfl
@[simp] theorem State.now_modZones (f : Zones → Zones) : (s.modZones f).now = s.now := rfl
@[simp] theorem State.minute_modZones (f : Zones → Zones) : (s.modZones f).minute = s.minute := rfl
@[simp] theorem State.ownStation_modZones (f : Zones → Zones) : (s.modZones f).ownStation = s.ownStation := rfl
@[simp] theorem State.coveringId_modZones (f : Zones → Zones) (m : Slot) : (s.modZones f).coveringId m = s.coveringId m := rfl
@[simp] theorem State.covered_modZones (f : Zones → Zones) (m : Slot) : (s.modZones f).covered m = s.covered m := rfl
@[simp] theorem State.lowestHeld_modZones (f : Zones → Zones) : (s.modZones f).lowestHeld = s.lowestHeld := rfl

/-! ## Readers of what an update wrote -/

@[simp] theorem State.slot_modSlot_self (n : Slot) (f : SlotLive → SlotLive) :
    (s.modSlot n f).slot n = f (s.slot n) := by
  simp [State.slot]

theorem State.slot_modSlot_ne {n m : Slot} (h : m ≠ n) (f : SlotLive → SlotLive) :
    (s.modSlot n f).slot m = s.slot m := by
  simp [State.slot, Fin.val_ne_of_ne (Ne.symm h)]

/-- Reading a slot after an update of one slot. -/
theorem State.slot_modSlot (n m : Slot) (f : SlotLive → SlotLive) :
    (s.modSlot n f).slot m = if m = n then f (s.slot n) else s.slot m := by
  by_cases h : m = n
  · subst h; simp
  · simp [h, s.slot_modSlot_ne h]

@[simp] theorem State.chan_modChan_self (c : Chan) (f : ChanRec → ChanRec) :
    (s.modChan c f).chan c = f (s.chan c) := by
  simp [State.chan]

theorem State.chan_modChan_ne {c d : Chan} (h : d ≠ c) (f : ChanRec → ChanRec) :
    (s.modChan c f).chan d = s.chan d := by
  simp [State.chan, Fin.val_ne_of_ne (Ne.symm h)]

/-- Reading a channel after an update of one channel. -/
theorem State.chan_modChan (c d : Chan) (f : ChanRec → ChanRec) :
    (s.modChan c f).chan d = if d = c then f (s.chan c) else s.chan d := by
  by_cases h : d = c
  · subst h; simp
  · simp [h, s.chan_modChan_ne h]

@[simp] theorem State.node_modNode_self (n : Node) (f : NodeRec → NodeRec) :
    (s.modNode n f).node n = f (s.node n) := by
  simp [State.node]

theorem State.node_modNode_ne {n m : Node} (h : m ≠ n) (f : NodeRec → NodeRec) :
    (s.modNode n f).node m = s.node m := by
  simp [State.node, Fin.val_ne_of_ne (Ne.symm h)]

/-- Reading a node after an update of one node. -/
theorem State.node_modNode (n m : Node) (f : NodeRec → NodeRec) :
    (s.modNode n f).node m = if m = n then f (s.node n) else s.node m := by
  by_cases h : m = n
  · subst h; simp
  · simp [h, s.node_modNode_ne h]

@[simp] theorem State.session_setSession_self (id : SessionId) (r : Option Session) :
    (s.setSession id r).session id = r := by
  simp [State.session]

theorem State.session_setSession_ne {i j : SessionId} (h : j ≠ i) (r : Option Session) :
    (s.setSession i r).session j = s.session j := by
  simp [State.session, Fin.val_ne_of_ne (Ne.symm h)]

/-- Reading a session record after one was replaced. -/
theorem State.session_setSession (i j : SessionId) (r : Option Session) :
    (s.setSession i r).session j = if j = i then r else s.session j := by
  by_cases h : j = i
  · subst h; simp
  · simp [h, s.session_setSession_ne h]

theorem TableStore.bank_setBank_self (t : TableStore) (id : BankId) (b : Bank) : (t.setBank id b).bank id = b := by
  cases id <;> rfl

theorem TableStore.bank_setBank_other (t : TableStore) (id : BankId) (b : Bank) :
    (t.setBank id b).bank id.other = t.bank id.other := by
  cases id <;> rfl

@[simp] theorem TableStore.setBank_serving (t : TableStore) (id : BankId) (b : Bank) :
    (t.setBank id b).serving = t.serving := by
  cases id <;> rfl

@[simp] theorem TableStore.setBank_requested (t : TableStore) (id : BankId) (b : Bank) :
    (t.setBank id b).requested = t.requested := by
  cases id <;> rfl

/-- Two states with the same slots read the same in every slot. -/
theorem State.slots_ext {s t : State} (h : ∀ n, s.slot n = t.slot n) : s.slots = t.slots := by
  apply Vector.ext
  intro i hi
  exact h ⟨i, hi⟩

/-! ## Named updates of one slot live record -/

@[simp] theorem SlotLive.resetForecast_fresh (v : SlotLive) : (v.resetForecast).fresh = v.fresh := rfl
@[simp] theorem SlotLive.resetForecast_fault (v : SlotLive) : (v.resetForecast).fault = v.fault := rfl
@[simp] theorem SlotLive.resetForecast_window (v : SlotLive) : (v.resetForecast).window = v.window := rfl
@[simp] theorem SlotLive.resetForecast_motion (v : SlotLive) : (v.resetForecast).motion = v.motion := rfl
@[simp] theorem SlotLive.resetForecast_motionReported (v : SlotLive) : (v.resetForecast).motionReported = v.motionReported := rfl
@[simp] theorem SlotLive.resetForecast_lastSettled (v : SlotLive) : (v.resetForecast).lastSettled = v.lastSettled := rfl
@[simp] theorem SlotLive.resetForecast_count (v : SlotLive) : (v.resetForecast).count = v.count := rfl
@[simp] theorem SlotLive.resetForecast_streak (v : SlotLive) : (v.resetForecast).streak = v.streak := rfl
@[simp] theorem SlotLive.resetForecast_inspection (v : SlotLive) : (v.resetForecast).inspection = v.inspection := rfl
@[simp] theorem SlotLive.resetForecast_removed (v : SlotLive) : (v.resetForecast).removed = v.removed := rfl
@[simp] theorem SlotLive.resetForecast_putBack (v : SlotLive) : (v.resetForecast).putBack = v.putBack := rfl
@[simp] theorem SlotLive.resetForecast_replenished (v : SlotLive) : (v.resetForecast).replenished = v.replenished := rfl
@[simp] theorem SlotLive.resetForecast_stock (v : SlotLive) : (v.resetForecast).stock = v.stock := rfl
@[simp] theorem SlotLive.resetForecast_acked (v : SlotLive) : (v.resetForecast).acked = v.acked := rfl
@[simp] theorem SlotLive.resetForecast_deadline (v : SlotLive) : (v.resetForecast).deadline = v.deadline := rfl
@[simp] theorem SlotLive.resetForecast_removedSum (v : SlotLive) : (v.resetForecast).removedSum = 0 := rfl
@[simp] theorem SlotLive.resetForecast_elapsed (v : SlotLive) : (v.resetForecast).elapsed = none := rfl
@[simp] theorem SlotLive.resetForecast_rate (v : SlotLive) : (v.resetForecast).rate = none := rfl
@[simp] theorem SlotLive.resetForecast_projection (v : SlotLive) : (v.resetForecast).projection = Config.noProjection := rfl
@[simp] theorem SlotLive.resetForecast_armed (v : SlotLive) : (v.resetForecast).armed = true := rfl
@[simp] theorem SlotLive.resetForecast_deficit (v : SlotLive) : (v.resetForecast).deficit = v.deficit := rfl
@[simp] theorem SlotLive.resetForecast_held (v : SlotLive) : (v.resetForecast).held = v.held := rfl

@[simp] theorem SlotLive.toUnknown_fresh (v : SlotLive) : (v.toUnknown).fresh = v.fresh := rfl
@[simp] theorem SlotLive.toUnknown_fault (v : SlotLive) : (v.toUnknown).fault = v.fault := rfl
@[simp] theorem SlotLive.toUnknown_window (v : SlotLive) : (v.toUnknown).window = none := rfl
@[simp] theorem SlotLive.toUnknown_motion (v : SlotLive) : (v.toUnknown).motion = none := rfl
@[simp] theorem SlotLive.toUnknown_motionReported (v : SlotLive) : (v.toUnknown).motionReported = false := rfl
@[simp] theorem SlotLive.toUnknown_lastSettled (v : SlotLive) : (v.toUnknown).lastSettled = none := rfl
@[simp] theorem SlotLive.toUnknown_count (v : SlotLive) : (v.toUnknown).count = none := rfl
@[simp] theorem SlotLive.toUnknown_streak (v : SlotLive) : (v.toUnknown).streak = 0 := rfl
@[simp] theorem SlotLive.toUnknown_inspection (v : SlotLive) : (v.toUnknown).inspection = none := rfl
@[simp] theorem SlotLive.toUnknown_removed (v : SlotLive) : (v.toUnknown).removed = v.removed := rfl
@[simp] theorem SlotLive.toUnknown_putBack (v : SlotLive) : (v.toUnknown).putBack = v.putBack := rfl
@[simp] theorem SlotLive.toUnknown_replenished (v : SlotLive) : (v.toUnknown).replenished = v.replenished := rfl
@[simp] theorem SlotLive.toUnknown_stock (v : SlotLive) : (v.toUnknown).stock = .unknown := rfl
@[simp] theorem SlotLive.toUnknown_acked (v : SlotLive) : (v.toUnknown).acked = false := rfl
@[simp] theorem SlotLive.toUnknown_deadline (v : SlotLive) : (v.toUnknown).deadline = none := rfl
@[simp] theorem SlotLive.toUnknown_removedSum (v : SlotLive) : (v.toUnknown).removedSum = 0 := rfl
@[simp] theorem SlotLive.toUnknown_elapsed (v : SlotLive) : (v.toUnknown).elapsed = none := rfl
@[simp] theorem SlotLive.toUnknown_rate (v : SlotLive) : (v.toUnknown).rate = none := rfl
@[simp] theorem SlotLive.toUnknown_projection (v : SlotLive) : (v.toUnknown).projection = Config.noProjection := rfl
@[simp] theorem SlotLive.toUnknown_armed (v : SlotLive) : (v.toUnknown).armed = true := rfl
@[simp] theorem SlotLive.toUnknown_deficit (v : SlotLive) : (v.toUnknown).deficit = v.deficit := rfl
@[simp] theorem SlotLive.toUnknown_held (v : SlotLive) : (v.toUnknown).held = v.held := rfl

@[simp] theorem SlotLive.transit_fresh (v : SlotLive) (new : StockState) (fresh : Word) : (v.transit new fresh).fresh = v.fresh := rfl
@[simp] theorem SlotLive.transit_fault (v : SlotLive) (new : StockState) (fresh : Word) : (v.transit new fresh).fault = v.fault := rfl
@[simp] theorem SlotLive.transit_window (v : SlotLive) (new : StockState) (fresh : Word) : (v.transit new fresh).window = v.window := rfl
@[simp] theorem SlotLive.transit_motion (v : SlotLive) (new : StockState) (fresh : Word) : (v.transit new fresh).motion = v.motion := rfl
@[simp] theorem SlotLive.transit_motionReported (v : SlotLive) (new : StockState) (fresh : Word) : (v.transit new fresh).motionReported = v.motionReported := rfl
@[simp] theorem SlotLive.transit_lastSettled (v : SlotLive) (new : StockState) (fresh : Word) : (v.transit new fresh).lastSettled = v.lastSettled := rfl
@[simp] theorem SlotLive.transit_count (v : SlotLive) (new : StockState) (fresh : Word) : (v.transit new fresh).count = v.count := rfl
@[simp] theorem SlotLive.transit_streak (v : SlotLive) (new : StockState) (fresh : Word) : (v.transit new fresh).streak = v.streak := rfl
@[simp] theorem SlotLive.transit_inspection (v : SlotLive) (new : StockState) (fresh : Word) : (v.transit new fresh).inspection = v.inspection := rfl
@[simp] theorem SlotLive.transit_removed (v : SlotLive) (new : StockState) (fresh : Word) : (v.transit new fresh).removed = v.removed := rfl
@[simp] theorem SlotLive.transit_putBack (v : SlotLive) (new : StockState) (fresh : Word) : (v.transit new fresh).putBack = v.putBack := rfl
@[simp] theorem SlotLive.transit_replenished (v : SlotLive) (new : StockState) (fresh : Word) : (v.transit new fresh).replenished = v.replenished := rfl
@[simp] theorem SlotLive.transit_stock (v : SlotLive) (new : StockState) (fresh : Word) : (v.transit new fresh).stock = new := rfl
@[simp] theorem SlotLive.transit_acked (v : SlotLive) (new : StockState) (fresh : Word) : (v.transit new fresh).acked = ackedAfter v.stock new v.acked := rfl
@[simp] theorem SlotLive.transit_deadline (v : SlotLive) (new : StockState) (fresh : Word) : (v.transit new fresh).deadline = deadlineAfter v.stock new fresh v.deadline := rfl
@[simp] theorem SlotLive.transit_removedSum (v : SlotLive) (new : StockState) (fresh : Word) : (v.transit new fresh).removedSum = v.removedSum := rfl
@[simp] theorem SlotLive.transit_elapsed (v : SlotLive) (new : StockState) (fresh : Word) : (v.transit new fresh).elapsed = v.elapsed := rfl
@[simp] theorem SlotLive.transit_rate (v : SlotLive) (new : StockState) (fresh : Word) : (v.transit new fresh).rate = v.rate := rfl
@[simp] theorem SlotLive.transit_projection (v : SlotLive) (new : StockState) (fresh : Word) : (v.transit new fresh).projection = v.projection := rfl
@[simp] theorem SlotLive.transit_armed (v : SlotLive) (new : StockState) (fresh : Word) : (v.transit new fresh).armed = (v.armed || (v.stock.short && new = .stocked)) := rfl
@[simp] theorem SlotLive.transit_deficit (v : SlotLive) (new : StockState) (fresh : Word) : (v.transit new fresh).deficit = v.deficit := rfl
@[simp] theorem SlotLive.transit_held (v : SlotLive) (new : StockState) (fresh : Word) : (v.transit new fresh).held = v.held := rfl

/-! ## Named updates of the whole state -/

@[simp] theorem State.endTxn_time : (s.endTxn).time = s.time := rfl
@[simp] theorem State.endTxn_strap : (s.endTxn).strap = s.strap := rfl
@[simp] theorem State.endTxn_store : (s.endTxn).store = s.store := rfl
@[simp] theorem State.endTxn_chans : (s.endTxn).chans = s.chans := rfl
@[simp] theorem State.endTxn_slots : (s.endTxn).slots = s.slots := rfl
@[simp] theorem State.endTxn_sessions : (s.endTxn).sessions = s.sessions := rfl
@[simp] theorem State.endTxn_alerts : (s.endTxn).alerts = s.alerts := rfl
@[simp] theorem State.endTxn_zones : (s.endTxn).zones = s.zones := rfl
@[simp] theorem State.endTxn_trunk : (s.endTxn).trunk = { s.trunk with txn := none } := rfl
@[simp] theorem State.endTxn_link : (s.endTxn).link = s.link := rfl
@[simp] theorem State.endTxn_mgmt : (s.endTxn).mgmt = s.mgmt := rfl
@[simp] theorem State.endTxn_pending : (s.endTxn).pending = s.pending := rfl

@[simp] theorem State.send_time (f : Frame) (resets : Bool) : (s.send f resets).time = s.time := rfl
@[simp] theorem State.send_strap (f : Frame) (resets : Bool) : (s.send f resets).strap = s.strap := rfl
@[simp] theorem State.send_store (f : Frame) (resets : Bool) : (s.send f resets).store = s.store := rfl
@[simp] theorem State.send_chans (f : Frame) (resets : Bool) : (s.send f resets).chans = s.chans := rfl
@[simp] theorem State.send_slots (f : Frame) (resets : Bool) : (s.send f resets).slots = s.slots := rfl
@[simp] theorem State.send_sessions (f : Frame) (resets : Bool) : (s.send f resets).sessions = s.sessions := rfl
@[simp] theorem State.send_alerts (f : Frame) (resets : Bool) : (s.send f resets).alerts = s.alerts := rfl
@[simp] theorem State.send_zones (f : Frame) (resets : Bool) : (s.send f resets).zones = s.zones := rfl
@[simp] theorem State.send_trunk (f : Frame) (resets : Bool) : (s.send f resets).trunk = s.trunk := rfl
@[simp] theorem State.send_link (f : Frame) (resets : Bool) : (s.send f resets).link = { s.link with uplink := some ⟨f, resets⟩ } := rfl
@[simp] theorem State.send_mgmt (f : Frame) (resets : Bool) : (s.send f resets).mgmt = s.mgmt := rfl
@[simp] theorem State.send_pending (f : Frame) (resets : Bool) : (s.send f resets).pending = s.pending := rfl

@[simp] theorem State.dropRequest_time : (s.dropRequest).time = s.time := rfl
@[simp] theorem State.dropRequest_strap : (s.dropRequest).strap = s.strap := rfl
@[simp] theorem State.dropRequest_store : (s.dropRequest).store = s.store := rfl
@[simp] theorem State.dropRequest_chans : (s.dropRequest).chans = s.chans := rfl
@[simp] theorem State.dropRequest_slots : (s.dropRequest).slots = s.slots := rfl
@[simp] theorem State.dropRequest_sessions : (s.dropRequest).sessions = s.sessions := rfl
@[simp] theorem State.dropRequest_alerts : (s.dropRequest).alerts = s.alerts := rfl
@[simp] theorem State.dropRequest_zones : (s.dropRequest).zones = s.zones := rfl
@[simp] theorem State.dropRequest_trunk : (s.dropRequest).trunk = s.trunk := rfl
@[simp] theorem State.dropRequest_link : (s.dropRequest).link = s.link := rfl
@[simp] theorem State.dropRequest_mgmt : (s.dropRequest).mgmt = { s.mgmt with requests := s.mgmt.requests.tail } := rfl
@[simp] theorem State.dropRequest_pending : (s.dropRequest).pending = s.pending := rfl

@[simp] theorem State.respond_time (tag : BitVec 4) (code : Byte) (status : Status) (rs : List Byte) : (s.respond tag code status rs).time = s.time := rfl
@[simp] theorem State.respond_strap (tag : BitVec 4) (code : Byte) (status : Status) (rs : List Byte) : (s.respond tag code status rs).strap = s.strap := rfl
@[simp] theorem State.respond_store (tag : BitVec 4) (code : Byte) (status : Status) (rs : List Byte) : (s.respond tag code status rs).store = s.store := rfl
@[simp] theorem State.respond_chans (tag : BitVec 4) (code : Byte) (status : Status) (rs : List Byte) : (s.respond tag code status rs).chans = s.chans := rfl
@[simp] theorem State.respond_slots (tag : BitVec 4) (code : Byte) (status : Status) (rs : List Byte) : (s.respond tag code status rs).slots = s.slots := rfl
@[simp] theorem State.respond_sessions (tag : BitVec 4) (code : Byte) (status : Status) (rs : List Byte) : (s.respond tag code status rs).sessions = s.sessions := rfl
@[simp] theorem State.respond_alerts (tag : BitVec 4) (code : Byte) (status : Status) (rs : List Byte) : (s.respond tag code status rs).alerts = s.alerts := rfl
@[simp] theorem State.respond_zones (tag : BitVec 4) (code : Byte) (status : Status) (rs : List Byte) : (s.respond tag code status rs).zones = s.zones := rfl
@[simp] theorem State.respond_trunk (tag : BitVec 4) (code : Byte) (status : Status) (rs : List Byte) : (s.respond tag code status rs).trunk = s.trunk := rfl
@[simp] theorem State.respond_link (tag : BitVec 4) (code : Byte) (status : Status) (rs : List Byte) : (s.respond tag code status rs).link = s.link := rfl
@[simp] theorem State.respond_mgmt (tag : BitVec 4) (code : Byte) (status : Status) (rs : List Byte) : (s.respond tag code status rs).mgmt = { s.mgmt with response := some ⟨tag, responseParts code status rs⟩ } := rfl
@[simp] theorem State.respond_pending (tag : BitVec 4) (code : Byte) (status : Status) (rs : List Byte) : (s.respond tag code status rs).pending = s.pending := rfl

@[simp] theorem State.withCommand_time (c : Instr) : (s.withCommand c).time = s.time := rfl
@[simp] theorem State.withCommand_strap (c : Instr) : (s.withCommand c).strap = s.strap := rfl
@[simp] theorem State.withCommand_store (c : Instr) : (s.withCommand c).store = s.store := rfl
@[simp] theorem State.withCommand_chans (c : Instr) : (s.withCommand c).chans = s.chans := rfl
@[simp] theorem State.withCommand_slots (c : Instr) : (s.withCommand c).slots = s.slots := rfl
@[simp] theorem State.withCommand_sessions (c : Instr) : (s.withCommand c).sessions = s.sessions := rfl
@[simp] theorem State.withCommand_alerts (c : Instr) : (s.withCommand c).alerts = s.alerts := rfl
@[simp] theorem State.withCommand_zones (c : Instr) : (s.withCommand c).zones = s.zones := rfl
@[simp] theorem State.withCommand_trunk (c : Instr) : (s.withCommand c).trunk = s.trunk := rfl
@[simp] theorem State.withCommand_link (c : Instr) : (s.withCommand c).link = s.link := rfl
@[simp] theorem State.withCommand_mgmt (c : Instr) : (s.withCommand c).mgmt = s.mgmt := rfl
@[simp] theorem State.withCommand_pending (c : Instr) : (s.withCommand c).pending = c :: s.pending := rfl

@[simp] theorem State.afterSoftReset_time : (s.afterSoftReset).time = s.time := rfl
@[simp] theorem State.afterSoftReset_strap : (s.afterSoftReset).strap = s.strap := rfl
@[simp] theorem State.afterSoftReset_store : (s.afterSoftReset).store = { s.store with requested := none } := rfl
@[simp] theorem State.afterSoftReset_chans : (s.afterSoftReset).chans = Vector.replicate 256 ChanRec.reset := rfl
@[simp] theorem State.afterSoftReset_slots : (s.afterSoftReset).slots = Vector.replicate 256 SlotLive.reset := rfl
@[simp] theorem State.afterSoftReset_sessions : (s.afterSoftReset).sessions = Vector.replicate 8 none := rfl
@[simp] theorem State.afterSoftReset_alerts : (s.afterSoftReset).alerts = [] := rfl
@[simp] theorem State.afterSoftReset_zones : (s.afterSoftReset).zones = s.zones := rfl
@[simp] theorem State.afterSoftReset_trunk : (s.afterSoftReset).trunk = s.trunk.afterSoftReset s.acting.header.timeout.toNat := rfl
@[simp] theorem State.afterSoftReset_link : (s.afterSoftReset).link = AisleLink.reset := rfl
@[simp] theorem State.afterSoftReset_mgmt : (s.afterSoftReset).mgmt = s.mgmt.afterSoftReset := rfl
@[simp] theorem State.afterSoftReset_pending : (s.afterSoftReset).pending = s.pending := rfl

end Sys2Proof.Machine
end

