-- ==== Sys2Proof/Laws/Alerts.lean ====
section
/-!
SUPPORT. What the operations of the alert queue can change: of the whole state only the queue, the held-back
flags and the queue overflow count (`OnlyAlerts`). Each operation has one lemma that says so.
-/

namespace Sys2Proof.Machine

/-! ## Live records that agree but for the held-back flag -/

theorem SameButHeld.refl (v : SlotLive) : SameButHeld v v := rfl

theorem SameButHeld.trans {u v w : SlotLive} (h : SameButHeld u v) (k : SameButHeld v w) : SameButHeld u w :=
  Eq.trans (congrArg (fun x : SlotLive => { x with held := w.held }) h) (show { v with held := w.held } = w from k)

/-- Only the held kind was written. -/
theorem SameButHeld.of_held (v : SlotLive) (k : Option AlertKind) : SameButHeld v { v with held := k } := rfl

theorem SameButHeld.fresh {v w : SlotLive} (h : SameButHeld v w) : w.fresh = v.fresh :=
  (congrArg SlotLive.fresh h).symm

theorem SameButHeld.fault {v w : SlotLive} (h : SameButHeld v w) : w.fault = v.fault :=
  (congrArg SlotLive.fault h).symm

theorem SameButHeld.window {v w : SlotLive} (h : SameButHeld v w) : w.window = v.window :=
  (congrArg SlotLive.window h).symm

theorem SameButHeld.motion {v w : SlotLive} (h : SameButHeld v w) : w.motion = v.motion :=
  (congrArg SlotLive.motion h).symm

theorem SameButHeld.motionReported {v w : SlotLive} (h : SameButHeld v w) : w.motionReported = v.motionReported :=
  (congrArg SlotLive.motionReported h).symm

theorem SameButHeld.lastSettled {v w : SlotLive} (h : SameButHeld v w) : w.lastSettled = v.lastSettled :=
  (congrArg SlotLive.lastSettled h).symm

theorem SameButHeld.count {v w : SlotLive} (h : SameButHeld v w) : w.count = v.count :=
  (congrArg SlotLive.count h).symm

theorem SameButHeld.streak {v w : SlotLive} (h : SameButHeld v w) : w.streak = v.streak :=
  (congrArg SlotLive.streak h).symm

theorem SameButHeld.inspection {v w : SlotLive} (h : SameButHeld v w) : w.inspection = v.inspection :=
  (congrArg SlotLive.inspection h).symm

theorem SameButHeld.removed {v w : SlotLive} (h : SameButHeld v w) : w.removed = v.removed :=
  (congrArg SlotLive.removed h).symm

theorem SameButHeld.putBack {v w : SlotLive} (h : SameButHeld v w) : w.putBack = v.putBack :=
  (congrArg SlotLive.putBack h).symm

theorem SameButHeld.replenished {v w : SlotLive} (h : SameButHeld v w) : w.replenished = v.replenished :=
  (congrArg SlotLive.replenished h).symm

theorem SameButHeld.stock {v w : SlotLive} (h : SameButHeld v w) : w.stock = v.stock :=
  (congrArg SlotLive.stock h).symm

theorem SameButHeld.acked {v w : SlotLive} (h : SameButHeld v w) : w.acked = v.acked :=
  (congrArg SlotLive.acked h).symm

theorem SameButHeld.deadline {v w : SlotLive} (h : SameButHeld v w) : w.deadline = v.deadline :=
  (congrArg SlotLive.deadline h).symm

theorem SameButHeld.removedSum {v w : SlotLive} (h : SameButHeld v w) : w.removedSum = v.removedSum :=
  (congrArg SlotLive.removedSum h).symm

theorem SameButHeld.elapsed {v w : SlotLive} (h : SameButHeld v w) : w.elapsed = v.elapsed :=
  (congrArg SlotLive.elapsed h).symm

theorem SameButHeld.rate {v w : SlotLive} (h : SameButHeld v w) : w.rate = v.rate :=
  (congrArg SlotLive.rate h).symm

theorem SameButHeld.projection {v w : SlotLive} (h : SameButHeld v w) : w.projection = v.projection :=
  (congrArg SlotLive.projection h).symm

theorem SameButHeld.armed {v w : SlotLive} (h : SameButHeld v w) : w.armed = v.armed :=
  (congrArg SlotLive.armed h).symm

theorem SameButHeld.deficit {v w : SlotLive} (h : SameButHeld v w) : w.deficit = v.deficit :=
  (congrArg SlotLive.deficit h).symm

/-! ## Changes within the alert queue -/

theorem OnlyAlerts.refl (s : State) : OnlyAlerts s s := ⟨rfl, fun _ => rfl⟩

theorem OnlyAlerts.trans {s t u : State} (h : OnlyAlerts s t) (k : OnlyAlerts t u) : OnlyAlerts s u := by
  obtain ⟨h1, h2⟩ := h
  obtain ⟨k1, k2⟩ := k
  refine ⟨?_, fun n => (h2 n).trans (k2 n)⟩
  rw [h1] at k1
  exact k1

/-- A slot's live record agrees but for its held-back flag. -/
theorem OnlyAlerts.slot {s t : State} (h : OnlyAlerts s t) (n : Slot) : SameButHeld (s.slot n) (t.slot n) := h.2 n

theorem OnlyAlerts.time {s t : State} (h : OnlyAlerts s t) : t.time = s.time :=
  (congrArg State.time h.1 :)

theorem OnlyAlerts.strap {s t : State} (h : OnlyAlerts s t) : t.strap = s.strap :=
  (congrArg State.strap h.1 :)

theorem OnlyAlerts.store {s t : State} (h : OnlyAlerts s t) : t.store = s.store :=
  (congrArg State.store h.1 :)

theorem OnlyAlerts.chans {s t : State} (h : OnlyAlerts s t) : t.chans = s.chans :=
  (congrArg State.chans h.1 :)

theorem OnlyAlerts.sessions {s t : State} (h : OnlyAlerts s t) : t.sessions = s.sessions :=
  (congrArg State.sessions h.1 :)

theorem OnlyAlerts.zones {s t : State} (h : OnlyAlerts s t) : t.zones = s.zones :=
  (congrArg State.zones h.1 :)

theorem OnlyAlerts.trunk {s t : State} (h : OnlyAlerts s t) : t.trunk = s.trunk :=
  (congrArg State.trunk h.1 :)

theorem OnlyAlerts.link {s t : State} (h : OnlyAlerts s t) : t.link = s.link :=
  (congrArg State.link h.1 :)

theorem OnlyAlerts.pending {s t : State} (h : OnlyAlerts s t) : t.pending = s.pending :=
  (congrArg State.pending h.1 :)

theorem OnlyAlerts.requests {s t : State} (h : OnlyAlerts s t) : t.mgmt.requests = s.mgmt.requests :=
  (congrArg (fun u : State => u.mgmt.requests) h.1 :)

theorem OnlyAlerts.response {s t : State} (h : OnlyAlerts s t) : t.mgmt.response = s.mgmt.response :=
  (congrArg (fun u : State => u.mgmt.response) h.1 :)

theorem OnlyAlerts.softReset {s t : State} (h : OnlyAlerts s t) : t.mgmt.softReset = s.mgmt.softReset :=
  (congrArg (fun u : State => u.mgmt.softReset) h.1 :)

theorem OnlyAlerts.cause {s t : State} (h : OnlyAlerts s t) : t.mgmt.cause = s.mgmt.cause :=
  (congrArg (fun u : State => u.mgmt.cause) h.1 :)

theorem OnlyAlerts.mask {s t : State} (h : OnlyAlerts s t) : t.mgmt.mask = s.mgmt.mask :=
  (congrArg (fun u : State => u.mgmt.mask) h.1 :)

theorem OnlyAlerts.acting {s t : State} (h : OnlyAlerts s t) : t.acting = s.acting := by
  simp [State.acting, h.store]

theorem OnlyAlerts.now {s t : State} (h : OnlyAlerts s t) : t.now = s.now := by
  simp [State.now, h.time]

theorem OnlyAlerts.minute {s t : State} (h : OnlyAlerts s t) : t.minute = s.minute := by
  simp [State.minute, h.time]

theorem OnlyAlerts.chan {s t : State} (h : OnlyAlerts s t) (c : Chan) : t.chan c = s.chan c := by
  simp [State.chan, h.chans]

theorem OnlyAlerts.node {s t : State} (h : OnlyAlerts s t) (n : Node) : t.node n = s.node n := by
  simp [State.node, h.trunk]

theorem OnlyAlerts.session {s t : State} (h : OnlyAlerts s t) (id : SessionId) : t.session id = s.session id := by
  simp [State.session, h.sessions]

theorem OnlyAlerts.coveringId {s t : State} (h : OnlyAlerts s t) (n : Slot) : t.coveringId n = s.coveringId n := by
  simp [State.coveringId, h.session]

theorem OnlyAlerts.covered {s t : State} (h : OnlyAlerts s t) (n : Slot) : t.covered n = s.covered n := by
  simp [State.covered, h.coveringId]

/-! ## The named updates the operations are made of -/

theorem setAlerts_onlyAlerts (s : State) (q : List AlertEntry) : OnlyAlerts s (s.setAlerts q) :=
  ⟨rfl, fun _ => rfl⟩

theorem enqueue_onlyAlerts (b : Bank) (a : Alert) (s : State) : OnlyAlerts s (s.enqueue b a) :=
  setAlerts_onlyAlerts s _

/-- Writing the held kind of one slot. -/
theorem modHeld_onlyAlerts (s : State) (n : Slot) (k : Option AlertKind) :
    OnlyAlerts s (s.modSlot n fun v => { v with held := k }) := by
  refine ⟨rfl, fun m => ?_⟩
  rw [State.slot_modSlot]
  split
  · next h => subst h; exact SameButHeld.of_held _ _
  · exact SameButHeld.refl _

/-- Writing the queue overflow count. -/
theorem modOverflow_onlyAlerts (s : State) (f : Counters → Nat) :
    OnlyAlerts s (s.modCounters fun c => { c with queueOverflow := f c }) :=
  ⟨rfl, fun _ => rfl⟩

/-! ## Re-offer and withdrawal -/

theorem reoffer_onlyAlerts (b : Bank) (s : State) : OnlyAlerts s (reoffer b s) := by
  unfold reoffer
  split
  · exact .refl s
  · split
    · exact .refl s
    · exact (enqueue_onlyAlerts b _ s).trans (modHeld_onlyAlerts _ _ _)

theorem reoffers_onlyAlerts (b : Bank) (k : Nat) (s : State) : OnlyAlerts s (reoffers b k s) := by
  induction k generalizing s with
  | zero => exact .refl s
  | succ k ih => exact (reoffer_onlyAlerts b s).trans (ih _)

theorem withdraw_onlyAlerts (b : Bank) (k : AlertKey) (s : State) : OnlyAlerts s (withdraw b k s) := by
  unfold withdraw
  split
  · exact .refl s
  · exact (setAlerts_onlyAlerts s _).trans (reoffer_onlyAlerts b _)

theorem withdrawSlot_onlyAlerts (b : Bank) (n : Slot) (p : AlertKind → Bool) (s : State) :
    OnlyAlerts s (withdrawSlot b n p s) := by
  have last : ∀ t, OnlyAlerts s t → OnlyAlerts s
      (if (t.slot n).held.any p then t.modSlot n fun v => { v with held := none } else t) := by
    intro t h
    split
    · exact h.trans (modHeld_onlyAlerts _ _ _)
    · exact h
  unfold withdrawSlot
  refine last _ ?_
  split
  · split
    · exact withdraw_onlyAlerts b _ s
    · exact .refl s
  · exact .refl s

theorem withdrawKinds_onlyAlerts (b : Bank) (p : AlertKind → Bool) (s : State) :
    OnlyAlerts s (withdrawKinds b p s) := by
  unfold withdrawKinds
  generalize (s.alerts.filter fun e => p e.alert.kind).map (·.alert.key) = ks
  induction ks generalizing s with
  | nil => exact .refl s
  | cons k ks ih => exact (withdraw_onlyAlerts b k s).trans (ih _)

theorem clearHeld_onlyAlerts (p : AlertKind → Bool) (s : State) : OnlyAlerts s (clearHeld p s) := by
  refine ⟨rfl, fun n => ?_⟩
  simp only [clearHeld, State.slot, Fin.getElem_fin, Vector.getElem_map]
  split
  · exact SameButHeld.of_held _ _
  · exact SameButHeld.refl _

/-! ## Raising -/

theorem merge_onlyAlerts (b : Bank) (a : Alert) (e : AlertEntry) (s : State) : OnlyAlerts s (merge b a e s) := by
  unfold merge
  split
  · exact withdraw_onlyAlerts b _ s
  · split
    · dsimp only
      split
      · exact setAlerts_onlyAlerts s _
      · exact setAlerts_onlyAlerts s _
    · exact .refl s

theorem place_onlyAlerts (b : Bank) (a : Alert) (s : State) : OnlyAlerts s (place b a s) := by
  unfold place
  split
  · exact enqueue_onlyAlerts b a s
  · dsimp only
    split
    · exact (modOverflow_onlyAlerts s _).trans (modHeld_onlyAlerts _ _ _)
    · exact modOverflow_onlyAlerts s _

theorem raiseNew_onlyAlerts (b : Bank) (a : Alert) (s : State) : OnlyAlerts s (raiseNew b a s) := by
  unfold raiseNew
  split
  · split
    · exact modHeld_onlyAlerts s _ _
    · exact place_onlyAlerts b a s
  · exact place_onlyAlerts b a s

/-- Raising an alert changes nothing outside the alert queue, whichever of its four decisions is taken. -/
theorem raiseAlert_onlyAlerts (b : Bank) (a : Alert) (s : State) : OnlyAlerts s (raiseAlert b a s) := by
  unfold raiseAlert
  split
  · exact .refl s
  · split
    · exact merge_onlyAlerts b a _ s
    · exact raiseNew_onlyAlerts b a s

theorem raiseStock_onlyAlerts (b : Bank) (n : Slot) (kind : AlertKind) (s : State) :
    OnlyAlerts s (raiseStock b n kind s) :=
  raiseAlert_onlyAlerts b _ s

end Sys2Proof.Machine
end

