-- ==== Sys2Proof/Laws/Slots.lean ====
section
/-!
SUPPORT. What the operations of the slot engine can change: one slot's live record and the alert queue
(`OnlySlot`), and for the few that reach the trunk controller its motion list. One lemma for each operation.
-/

namespace Sys2Proof.Machine

/-! ## Changes within one slot and the alert queue -/

theorem OnlySlot.refl (n : Slot) (s : State) : OnlySlot n s s := ⟨rfl, fun _ _ => rfl⟩

theorem OnlySlot.trans {n : Slot} {s t u : State} (h : OnlySlot n s t) (k : OnlySlot n t u) : OnlySlot n s u := by
  obtain ⟨h1, h2⟩ := h
  obtain ⟨k1, k2⟩ := k
  refine ⟨?_, fun m hm => (h2 m hm).trans (k2 m hm)⟩
  rw [h1] at k1
  exact k1

/-- A change of the alert queue alone is a change within any one slot and the queue. -/
theorem OnlyAlerts.onlySlot {s t : State} (h : OnlyAlerts s t) (n : Slot) : OnlySlot n s t :=
  ⟨h.1, fun m _ => h.2 m⟩

theorem modSlot_onlySlot (s : State) (n : Slot) (f : SlotLive → SlotLive) : OnlySlot n s (s.modSlot n f) := by
  refine ⟨rfl, fun m hm => ?_⟩
  rw [State.slot_modSlot_ne s hm]
  exact SameButHeld.refl _

theorem OnlySlot.time {n : Slot} {s t : State} (h : OnlySlot n s t) : t.time = s.time :=
  (congrArg State.time h.1 :)

theorem OnlySlot.strap {n : Slot} {s t : State} (h : OnlySlot n s t) : t.strap = s.strap :=
  (congrArg State.strap h.1 :)

theorem OnlySlot.store {n : Slot} {s t : State} (h : OnlySlot n s t) : t.store = s.store :=
  (congrArg State.store h.1 :)

theorem OnlySlot.chans {n : Slot} {s t : State} (h : OnlySlot n s t) : t.chans = s.chans :=
  (congrArg State.chans h.1 :)

theorem OnlySlot.sessions {n : Slot} {s t : State} (h : OnlySlot n s t) : t.sessions = s.sessions :=
  (congrArg State.sessions h.1 :)

theorem OnlySlot.zones {n : Slot} {s t : State} (h : OnlySlot n s t) : t.zones = s.zones :=
  (congrArg State.zones h.1 :)

theorem OnlySlot.trunk {n : Slot} {s t : State} (h : OnlySlot n s t) : t.trunk = s.trunk :=
  (congrArg State.trunk h.1 :)

theorem OnlySlot.link {n : Slot} {s t : State} (h : OnlySlot n s t) : t.link = s.link :=
  (congrArg State.link h.1 :)

theorem OnlySlot.pending {n : Slot} {s t : State} (h : OnlySlot n s t) : t.pending = s.pending :=
  (congrArg State.pending h.1 :)

theorem OnlySlot.requests {n : Slot} {s t : State} (h : OnlySlot n s t) : t.mgmt.requests = s.mgmt.requests :=
  (congrArg (fun u : State => u.mgmt.requests) h.1 :)

theorem OnlySlot.response {n : Slot} {s t : State} (h : OnlySlot n s t) : t.mgmt.response = s.mgmt.response :=
  (congrArg (fun u : State => u.mgmt.response) h.1 :)

theorem OnlySlot.softReset {n : Slot} {s t : State} (h : OnlySlot n s t) : t.mgmt.softReset = s.mgmt.softReset :=
  (congrArg (fun u : State => u.mgmt.softReset) h.1 :)

theorem OnlySlot.cause {n : Slot} {s t : State} (h : OnlySlot n s t) : t.mgmt.cause = s.mgmt.cause :=
  (congrArg (fun u : State => u.mgmt.cause) h.1 :)

theorem OnlySlot.mask {n : Slot} {s t : State} (h : OnlySlot n s t) : t.mgmt.mask = s.mgmt.mask :=
  (congrArg (fun u : State => u.mgmt.mask) h.1 :)

theorem OnlySlot.acting {n : Slot} {s t : State} (h : OnlySlot n s t) : t.acting = s.acting := by
  simp [State.acting, h.store]

theorem OnlySlot.now {n : Slot} {s t : State} (h : OnlySlot n s t) : t.now = s.now := by
  simp [State.now, h.time]

theorem OnlySlot.minute {n : Slot} {s t : State} (h : OnlySlot n s t) : t.minute = s.minute := by
  simp [State.minute, h.time]

theorem OnlySlot.coveringId {n : Slot} {s t : State} (h : OnlySlot n s t) (m : Slot) :
    t.coveringId m = s.coveringId m := by
  simp [State.coveringId, State.session, h.sessions]

theorem OnlySlot.covered {n : Slot} {s t : State} (h : OnlySlot n s t) (m : Slot) : t.covered m = s.covered m := by
  simp [State.covered, h.coveringId]

/-! ## Inspection and forecast -/

theorem raiseInspect_onlySlot (b : Bank) (n : Slot) (r : InspectReason) (c : Option Nat) (s : State) :
    OnlySlot n s (raiseInspect b n r c s) :=
  (modSlot_onlySlot s n _).trans ((raiseAlert_onlyAlerts b _ _).onlySlot n)

theorem arming_onlySlot (b : Bank) (n : Slot) (s : State) : OnlySlot n s (arming b n s) := by
  unfold arming
  dsimp only
  split
  · exact modSlot_onlySlot s n _
  · split
    · exact ((raiseAlert_onlyAlerts b _ s).onlySlot n).trans (modSlot_onlySlot _ n _)
    · exact .refl n s

theorem recompute_onlySlot (b : Bank) (n : Slot) (s : State) : OnlySlot n s (recompute b n s) :=
  (modSlot_onlySlot s n _).trans (arming_onlySlot b n _)

theorem windowClose_onlySlot (b : Bank) (n : Slot) (s : State) : OnlySlot n s (windowClose b n s) :=
  (modSlot_onlySlot s n _).trans (recompute_onlySlot b n _)

theorem forecastStep_onlySlot (b : Bank) (n : Slot) (s : State) : OnlySlot n s (forecastStep b n s) := by
  unfold forecastStep
  split
  · exact .refl n s
  · dsimp only
    split
    · exact (modSlot_onlySlot s n _).trans (windowClose_onlySlot b n _)
    · exact modSlot_onlySlot s n _

/-! ## Stock states and repeats -/

theorem transition_onlySlot (b : Bank) (n : Slot) (new : StockState) (s : State) :
    OnlySlot n s (transition b n new s) := by
  unfold transition
  dsimp only
  split
  · split
    · exact modSlot_onlySlot s n _
    · exact (modSlot_onlySlot s n _).trans ((raiseStock_onlyAlerts b n _ _).onlySlot n)
  · exact modSlot_onlySlot s n _

theorem stockEvaluate_onlySlot (b : Bank) (n : Slot) (s : State) : OnlySlot n s (stockEvaluate b n s) := by
  unfold stockEvaluate
  split
  · exact .refl n s
  · dsimp only
    split
    · exact .refl n s
    · exact transition_onlySlot b n _ s

theorem doRepeat_onlySlot (b : Bank) (n : Slot) (s : State) : OnlySlot n s (doRepeat b n s) := by
  unfold doRepeat
  dsimp only
  refine OnlySlot.trans ?_ (modSlot_onlySlot _ n _)
  split
  · exact (raiseStock_onlyAlerts b n _ s).onlySlot n
  · exact .refl n s

theorem repeatStep_onlySlot (b : Bank) (n : Slot) (s : State) : OnlySlot n s (repeatStep b n s) := by
  unfold repeatStep
  split
  · exact doRepeat_onlySlot b n s
  · exact .refl n s

theorem slotTick_onlySlot (b : Bank) (n : Slot) (s : State) : OnlySlot n s (slotTick b n s) :=
  (repeatStep_onlySlot b n s).trans (forecastStep_onlySlot b n _)

/-! ## Counting -/

theorem handOff_onlySlot (b : Bank) (n : Slot) (s : State) : OnlySlot n s (handOff b n s) :=
  (stockEvaluate_onlySlot b n s).trans (recompute_onlySlot b n _)

theorem firstCount_onlySlot (b : Bank) (n : Slot) (c : Nat) (s : State) : OnlySlot n s (firstCount b n c s) :=
  modSlot_onlySlot s n _

theorem take_onlySlot (b : Bank) (n : Slot) (k : Nat) (s : State) : OnlySlot n s (take b n k s) :=
  modSlot_onlySlot s n _

theorem doPutBack_onlySlot (b : Bank) (n : Slot) (k c : Nat) (s : State) : OnlySlot n s (doPutBack b n k c s) := by
  unfold doPutBack
  dsimp only
  split
  · exact (modSlot_onlySlot s n _).trans (raiseInspect_onlySlot b n _ _ _)
  · exact modSlot_onlySlot s n _

/-- A replenishment writes the slot and the covering session's units added. -/
theorem replenish_eq (n : Slot) (id : SessionId) (k : Nat) (s : State) :
    replenish n id k s = { s with
      sessions := s.sessions.set id ((s.session id).map fun r => { r with added := addUnits r.added k })
      slots := s.slots.set n { s.slot n with replenished := addUnits (s.slot n).replenished k } } := rfl

/-! ## Acknowledgement and re-evaluation -/

theorem acknowledge_onlySlot (b : Bank) (n : Slot) (s : State) : OnlySlot n s (acknowledge b n s) :=
  (modSlot_onlySlot s n _).trans ((withdrawSlot_onlyAlerts b n _ _).onlySlot n)

theorem reevaluate_onlySlot (b : Bank) (n : Slot) (s : State) : OnlySlot n s (reevaluate b n s) := by
  have short : OnlySlot n s
      (let s' := s.modSlot n fun v => { v with acked := false }
       let s'' := match standing (b.cfg n).mode (b.cfg n).emptyAlert (s.slot n).stock with
         | some kind => raiseStock b n kind s'
         | none => s'
       s''.modSlot n fun v => { v with deadline := some (freshDeadline b n s'') }) := by
    dsimp only
    refine OnlySlot.trans ?_ (modSlot_onlySlot _ n _)
    split
    · exact (modSlot_onlySlot s n _).trans ((raiseStock_onlyAlerts b n _ _).onlySlot n)
    · exact modSlot_onlySlot s n _
  unfold reevaluate
  dsimp only
  split
  · exact .refl n s
  · split
    · exact .refl n s
    · split
      · exact (raiseStock_onlyAlerts b n _ s).onlySlot n
      · exact .refl n s
    · exact short

theorem closeSlot_onlySlot (b : Bank) (n : Slot) (s : State) : OnlySlot n s (closeSlot b n s) :=
  (reevaluate_onlySlot b n s).trans (modSlot_onlySlot _ n _)

/-! ## Settle windows -/

theorem motionLimitTest_onlySlot (b : Bank) (n : Slot) (s : State) : OnlySlot n s (motionLimitTest b n s) := by
  unfold motionLimitTest
  dsimp only
  split
  · exact .refl n s
  · split
    · exact (modSlot_onlySlot s n _).trans (raiseInspect_onlySlot b n _ _ _)
    · exact .refl n s

theorem ambiguousCount_onlySlot (b : Bank) (n : Slot) (s : State) : OnlySlot n s (ambiguousCount b n s) := by
  unfold ambiguousCount
  dsimp only
  split
  · split
    · exact (modSlot_onlySlot s n _).trans (raiseInspect_onlySlot b n _ _ _)
    · exact modSlot_onlySlot s n _
  · exact .refl n s

/-! ## Bank switches -/

theorem restartForecast_onlySlot (b : Bank) (n : Slot) (s : State) : OnlySlot n s (restartForecast b n s) :=
  (modSlot_onlySlot s n _).trans (recompute_onlySlot b n _)

theorem keptSlot_onlySlot (old new : Bank) (n : Slot) (s : State) : OnlySlot n s (keptSlot old new n s) := by
  unfold keptSlot
  dsimp only
  have first : ∀ t, OnlySlot n s t → OnlySlot n s
      (if (new.cfg n).enabled && (t.slot n).stock ≠ .unknown then stockEvaluate new n t else t) := by
    intro t h
    split
    · exact h.trans (stockEvaluate_onlySlot new n t)
    · exact h
  split
  · exact (first _ (modSlot_onlySlot s n _)).trans (restartForecast_onlySlot new n _)
  · exact first _ (modSlot_onlySlot s n _)

/-! ## The motion list -/

/-- Offering a node writes the motion list or the motion overflow count. -/
theorem offerNode_eq (node : Node) (s : State) : ∃ l k, offerNode node s = { s with
    trunk := { s.trunk with motionList := l }
    mgmt := { s.mgmt with counters := { s.mgmt.counters with motionOverflow := k } } } := by
  unfold offerNode
  split
  · exact ⟨_, _, rfl⟩
  · split
    · exact ⟨_, _, rfl⟩
    · exact ⟨_, _, rfl⟩

/-- The offers of an unsettled close write the motion list and the motion overflow count. -/
theorem offerNodes_eq (b : Bank) (n : Slot) (s : State) : ∃ l k, offerNodes b n s = { s with
    trunk := { s.trunk with motionList := l }
    mgmt := { s.mgmt with counters := { s.mgmt.counters with motionOverflow := k } } } := by
  unfold offerNodes
  generalize b.liveNodes n = ns
  induction ns generalizing s with
  | nil => exact ⟨_, _, rfl⟩
  | cons x ns ih =>
    obtain ⟨l, k, h⟩ := offerNode_eq x s
    obtain ⟨l', k', h'⟩ := ih (offerNode x s)
    refine ⟨l', k', ?_⟩
    rw [List.foldl_cons, h', h]

/-- A slot that leaves motion changes nothing but the motion list and its pointer. -/
theorem leaveMotion_eq (b : Bank) (n : Slot) (s : State) : ∃ l p, leaveMotion b n s = { s with
    trunk := { s.trunk with motionList := l, motionPtr := p } } := by
  unfold leaveMotion
  generalize b.memberNodes n = ns
  induction ns generalizing s with
  | nil => exact ⟨_, _, rfl⟩
  | cons x ns ih =>
    rw [List.foldl_cons]
    split
    · obtain ⟨l, p, h⟩ := ih (s.modTrunk (·.dropNode x))
      exact ⟨l, p, h.trans rfl⟩
    · exact ih s

end Sys2Proof.Machine
end

