-- ==== Sys2Proof/Laws/Frames.lean ====
section
/-!
SUPPORT. What the larger operations can change. `SlotPath`: everything the slot engine and the restock session
table do stays within sessions, slot records, the alert queue, the motion list and two error counters.
`TrunkPath`: everything the arbiter does stays within that, the channel records, the trunk controller and the
switch state. Each operation has one lemma that says so.
-/

namespace Sys2Proof.Machine

/-! ## The slot path -/

/-- Only sessions, slot records, the alert queue, the motion list and its pointer, and the two overflow counts
may differ. -/
def SlotPath (s t : State) : Prop :=
  t = { s with
    sessions := t.sessions
    slots := t.slots
    alerts := t.alerts
    trunk := { s.trunk with motionList := t.trunk.motionList, motionPtr := t.trunk.motionPtr }
    mgmt := { s.mgmt with counters := { s.mgmt.counters with
      motionOverflow := t.mgmt.counters.motionOverflow
      queueOverflow := t.mgmt.counters.queueOverflow } } }

theorem SlotPath.refl (s : State) : SlotPath s s := rfl

theorem SlotPath.trans {s t u : State} (h : SlotPath s t) (k : SlotPath t u) : SlotPath s u := by
  unfold SlotPath at *
  rw [h] at k
  exact k

theorem OnlySlot.slotPath {n : Slot} {s t : State} (h : OnlySlot n s t) : SlotPath s t := by
  obtain ⟨h, -⟩ := h
  unfold SlotPath
  rw [h]

theorem OnlyAlerts.slotPath {s t : State} (h : OnlyAlerts s t) : SlotPath s t := by
  obtain ⟨h, -⟩ := h
  unfold SlotPath
  rw [h]

/-- A fold of operations on the slot path is on the slot path. -/
theorem SlotPath.foldl {α : Type} (f : State → α → State) (h : ∀ s x, SlotPath s (f s x)) (xs : List α)
    (s : State) : SlotPath s (xs.foldl f s) := by
  induction xs generalizing s with
  | nil => exact .refl s
  | cons x xs ih => exact (h s x).trans (ih _)

theorem SlotPath.time {s t : State} (h : SlotPath s t) : t.time = s.time :=
  (congrArg State.time h :)

theorem SlotPath.strap {s t : State} (h : SlotPath s t) : t.strap = s.strap :=
  (congrArg State.strap h :)

theorem SlotPath.store {s t : State} (h : SlotPath s t) : t.store = s.store :=
  (congrArg State.store h :)

theorem SlotPath.chans {s t : State} (h : SlotPath s t) : t.chans = s.chans :=
  (congrArg State.chans h :)

theorem SlotPath.zones {s t : State} (h : SlotPath s t) : t.zones = s.zones :=
  (congrArg State.zones h :)

theorem SlotPath.link {s t : State} (h : SlotPath s t) : t.link = s.link :=
  (congrArg State.link h :)

theorem SlotPath.pending {s t : State} (h : SlotPath s t) : t.pending = s.pending :=
  (congrArg State.pending h :)

theorem SlotPath.nodes {s t : State} (h : SlotPath s t) : t.trunk.nodes = s.trunk.nodes :=
  (congrArg (fun u : State => u.trunk.nodes) h :)

theorem SlotPath.acting {s t : State} (h : SlotPath s t) : t.acting = s.acting := by
  simp [State.acting, h.store]

theorem modSlot_slotPath (s : State) (n : Slot) (f : SlotLive → SlotLive) : SlotPath s (s.modSlot n f) := rfl

theorem setSession_slotPath (s : State) (id : SessionId) (r : Option Session) : SlotPath s (s.setSession id r) :=
  rfl

theorem offerNodes_slotPath (b : Bank) (n : Slot) (s : State) : SlotPath s (offerNodes b n s) := by
  obtain ⟨l, k, h⟩ := offerNodes_eq b n s
  unfold SlotPath
  rw [h]

theorem leaveMotion_slotPath (b : Bank) (n : Slot) (s : State) : SlotPath s (leaveMotion b n s) := by
  obtain ⟨l, p, h⟩ := leaveMotion_eq b n s
  unfold SlotPath
  rw [h]

theorem clearMotion_slotPath (b : Bank) (n : Slot) (s : State) : SlotPath s (clearMotion b n s) := by
  unfold clearMotion
  dsimp only
  split
  · exact (modSlot_slotPath s n _).trans (leaveMotion_slotPath b n _)
  · exact modSlot_slotPath s n _

theorem faultOnset_slotPath (b : Bank) (n : Slot) (s : State) : SlotPath s (faultOnset b n s) :=
  ((modSlot_slotPath s n _).trans (clearMotion_slotPath b n _)).trans (raiseAlert_onlyAlerts b _ _).slotPath

theorem faultTest_slotPath (b : Bank) (n : Slot) (s : State) : SlotPath s (faultTest b n s) := by
  unfold faultTest
  split
  · split
    · exact faultOnset_slotPath b n s
    · exact .refl s
  · split
    · exact modSlot_slotPath s n _
    · exact .refl s

theorem classifyChange_slotPath (b : Bank) (n : Slot) (old c : Nat) (s : State) :
    SlotPath s (classifyChange b n old c s) := by
  unfold classifyChange
  split
  · exact (take_onlySlot b n _ s).slotPath
  · split
    · split
      · exact rfl
      · exact (doPutBack_onlySlot b n _ c s).slotPath
    · exact .refl s

theorem acceptedCount_slotPath (b : Bank) (n : Slot) (c : Nat) (s : State) :
    SlotPath s (acceptedCount b n c s) := by
  unfold acceptedCount
  dsimp only
  split
  · exact ((modSlot_slotPath s n _).trans (firstCount_onlySlot b n c _).slotPath).trans
      (handOff_onlySlot b n _).slotPath
  · exact (((modSlot_slotPath s n _).trans (classifyChange_slotPath b n _ c _)).trans
      (modSlot_slotPath _ n _)).trans (handOff_onlySlot b n _).slotPath

theorem counting_slotPath (b : Bank) (n : Slot) (g : Int) (s : State) : SlotPath s (counting b n g s) := by
  unfold counting
  split
  · exact acceptedCount_slotPath b n _ s
  · exact (ambiguousCount_onlySlot b n s).slotPath

theorem settledClose_slotPath (b : Bank) (n : Slot) (g : Int) (s : State) :
    SlotPath s (settledClose b n g s) :=
  (((modSlot_slotPath s n _).trans (clearMotion_slotPath b n _)).trans (modSlot_slotPath _ n _)).trans
    (counting_slotPath b n g _)

theorem unsettledClose_slotPath (b : Bank) (n : Slot) (s : State) : SlotPath s (unsettledClose b n s) :=
  ((modSlot_slotPath s n _).trans (offerNodes_slotPath b n _)).trans (motionLimitTest_onlySlot b n _).slotPath

theorem takeSample_slotPath (b : Bank) (n : Slot) (x : Int) (s : State) : SlotPath s (takeSample b n x s) := by
  unfold takeSample
  dsimp only
  split
  · exact modSlot_slotPath s n _
  · exact settledClose_slotPath b n _ s
  · exact unsettledClose_slotPath b n s

theorem slotReply_slotPath (b : Bank) (cs : List Chan) (n : Slot) (s : State) :
    SlotPath s (slotReply b cs n s) := by
  unfold slotReply
  dsimp only
  split
  · exact faultTest_slotPath b n s
  · split
    · exact ((faultTest_slotPath b n s).trans (modSlot_slotPath _ n _)).trans (takeSample_slotPath b n _ _)
    · exact (faultTest_slotPath b n s).trans (modSlot_slotPath _ n _)

theorem nodeSilent_slotPath (b : Bank) (node : Node) (s : State) : SlotPath s (nodeSilent b node s) :=
  SlotPath.foldl _ (fun s n => faultTest_slotPath b n s) _ s

theorem zeroReset_slotPath (b : Bank) (n : Slot) (s : State) : SlotPath s (zeroReset b n s) := by
  unfold zeroReset
  dsimp only
  split
  · exact ((modSlot_slotPath s n _).trans (leaveMotion_slotPath b n _)).trans
      (withdrawSlot_onlyAlerts b n _ _).slotPath
  · exact (modSlot_slotPath s n _).trans (withdrawSlot_onlyAlerts b n _ _).slotPath

theorem slotsPass_slotPath (b : Bank) (s : State) : SlotPath s (slotsPass b s) :=
  SlotPath.foldl _ (fun s n => (slotTick_onlySlot b n s).slotPath) _ s

theorem closeSession_slotPath (b : Bank) (id : SessionId) (r : Session) (x : Bool) (s : State) :
    SlotPath s (closeSession b id r x s) := by
  unfold closeSession
  dsimp only
  refine SlotPath.trans ?_ (SlotPath.foldl _ (fun s n => (closeSlot_onlySlot b n s).slotPath) _ _)
  split
  · exact (setSession_slotPath s id none).trans (raiseAlert_onlyAlerts b _ _).slotPath
  · exact setSession_slotPath s id none

theorem expireOne_slotPath (b : Bank) (id : SessionId) (s : State) : SlotPath s (expireOne b id s) := by
  unfold expireOne
  split
  · split
    · exact closeSession_slotPath b id _ true s
    · exact .refl s
  · exact .refl s

theorem sessionsPass_slotPath (b : Bank) (s : State) : SlotPath s (sessionsPass b s) :=
  SlotPath.foldl _ (fun s id => expireOne_slotPath b id s) _ s

theorem countWindows_slotPath (s : State) : SlotPath s (countWindows s) := rfl

/-- What a minute tick makes the blocks do, in any of its three orders. -/
theorem minuteWork_slotPath (o : TickOrder) (s : State) : SlotPath s (minuteWork o s) := by
  cases o
  · exact (sessionsPass_slotPath _ s).trans (slotsPass_slotPath _ _)
  · exact (slotsPass_slotPath _ s).trans (sessionsPass_slotPath _ _)
  · exact countWindows_slotPath s

theorem markDeficits_slotPath (a b : Slot) (s : State) : SlotPath s (markDeficits a b s) :=
  SlotPath.foldl _ (fun s n => modSlot_slotPath s n _) _ s

theorem openSession_slotPath (id : SessionId) (r : Session) (s : State) : SlotPath s (openSession id r s) :=
  (setSession_slotPath s id _).trans (markDeficits_slotPath _ _ _)

theorem changedSlot_slotPath (new : Bank) (n : Slot) (s : State) : SlotPath s (changedSlot new n s) := by
  have first := (modSlot_slotPath s n fun v => { v.toUnknown with fresh := 0 }).trans
    (withdrawSlot_onlyAlerts new n (fun k => k ≠ .fault) _).slotPath
  unfold changedSlot changedFault
  dsimp only
  split
  · exact first.trans (faultTest_slotPath new n _)
  · exact first.trans (modSlot_slotPath _ n _)

theorem completeSlot_slotPath (x : Bool) (old new : Bank) (n : Slot) (s : State) :
    SlotPath s (completeSlot x old new n s) := by
  unfold completeSlot
  split
  · exact changedSlot_slotPath new n s
  · exact (keptSlot_onlySlot old new n s).slotPath

/-! ## The trunk path -/

/-- Only the channel records, sessions, slot records, the alert queue, the trunk controller, the serving bank and
the switch state, and the two overflow counts may differ. The contents of both banks are kept. -/
def TrunkPath (s t : State) : Prop :=
  t = { s with
    store := { s.store with serving := t.store.serving, requested := t.store.requested }
    chans := t.chans
    sessions := t.sessions
    slots := t.slots
    alerts := t.alerts
    trunk := t.trunk
    mgmt := { s.mgmt with counters := { s.mgmt.counters with
      motionOverflow := t.mgmt.counters.motionOverflow
      queueOverflow := t.mgmt.counters.queueOverflow } } }

theorem TrunkPath.refl (s : State) : TrunkPath s s := rfl

theorem TrunkPath.trans {s t u : State} (h : TrunkPath s t) (k : TrunkPath t u) : TrunkPath s u := by
  unfold TrunkPath at *
  rw [h] at k
  exact k

theorem SlotPath.trunkPath {s t : State} (h : SlotPath s t) : TrunkPath s t := by
  unfold SlotPath at h
  unfold TrunkPath
  rw [h]

theorem TrunkPath.foldl {α : Type} (f : State → α → State) (h : ∀ s x, TrunkPath s (f s x)) (xs : List α)
    (s : State) : TrunkPath s (xs.foldl f s) := by
  induction xs generalizing s with
  | nil => exact .refl s
  | cons x xs ih => exact (h s x).trans (ih _)

theorem TrunkPath.time {s t : State} (h : TrunkPath s t) : t.time = s.time :=
  (congrArg State.time h :)

theorem TrunkPath.strap {s t : State} (h : TrunkPath s t) : t.strap = s.strap :=
  (congrArg State.strap h :)

theorem TrunkPath.zones {s t : State} (h : TrunkPath s t) : t.zones = s.zones :=
  (congrArg State.zones h :)

theorem TrunkPath.link {s t : State} (h : TrunkPath s t) : t.link = s.link :=
  (congrArg State.link h :)

theorem TrunkPath.pending {s t : State} (h : TrunkPath s t) : t.pending = s.pending :=
  (congrArg State.pending h :)

theorem TrunkPath.bankA {s t : State} (h : TrunkPath s t) : t.store.bankA = s.store.bankA :=
  (congrArg (fun u : State => u.store.bankA) h :)

theorem TrunkPath.bankB {s t : State} (h : TrunkPath s t) : t.store.bankB = s.store.bankB :=
  (congrArg (fun u : State => u.store.bankB) h :)

theorem TrunkPath.bank {s t : State} (h : TrunkPath s t) (id : BankId) : t.store.bank id = s.store.bank id := by
  cases id
  · exact h.bankA
  · exact h.bankB

theorem modTrunk_trunkPath (s : State) (f : Trunk → Trunk) : TrunkPath s (s.modTrunk f) := rfl

theorem modChan_trunkPath (s : State) (c : Chan) (f : ChanRec → ChanRec) : TrunkPath s (s.modChan c f) := rfl

theorem nodeLoss_trunkPath (s : State) (node : Node) : TrunkPath s (s.nodeLoss node) := rfl

theorem zeroSend_trunkPath (z : RezeroSet) (s : State) : TrunkPath s (zeroSend z s) :=
  (TrunkPath.foldl _ (fun s c => modChan_trunkPath s c _) _ s).trans
    (TrunkPath.foldl _ (fun s n => (modSlot_slotPath s n _).trunkPath) _ _)

theorem zeroEnd_trunkPath (z : RezeroSet) (ok : Bool) (s : State) : TrunkPath s (zeroEnd z ok s) := by
  have first := TrunkPath.foldl (fun s c => s.modChan c fun r => { r with rezero := false })
    (fun s c => modChan_trunkPath s c _) z.chans s
  unfold zeroEnd
  dsimp only
  split
  · exact first.trans (TrunkPath.foldl _ (fun s n => (zeroReset_slotPath _ n s).trunkPath) _ _)
  · exact first

theorem completeSwitch_trunkPath (target : BankId) (s : State) : TrunkPath s (completeSwitch target s) := by
  have first : TrunkPath s (allSlots.foldl (fun s' n =>
      completeSlot s.store.serving.isNone s.acting (s.store.bank target) n s') s) :=
    (SlotPath.foldl _ (fun s' n => completeSlot_slotPath _ _ _ n s') _ s).trunkPath
  unfold completeSwitch
  exact first.trans rfl

theorem startPoll_trunkPath (node : Node) (m : Bool) (s : State) : TrunkPath s (startPoll node m s) := rfl

theorem startForward_trunkPath (f : Frame) (rest : List Frame) (s : State) :
    TrunkPath s (startForward f rest s) := by
  unfold startForward
  dsimp only
  refine TrunkPath.trans ?_ (modTrunk_trunkPath _ _)
  split
  · exact zeroSend_trunkPath _ s
  · exact .refl s

theorem advanceRoster_trunkPath (s : State) : TrunkPath s (advanceRoster s).1 := by
  unfold advanceRoster
  split
  · exact rfl
  · dsimp only
    split
    · exact (modTrunk_trunkPath s _).trans (completeSwitch_trunkPath _ _)
    · exact rfl

theorem skipPass_trunkPath (k : Nat) (s : State) : TrunkPath s (skipPass k s).1 := by
  induction k generalizing s with
  | zero =>
    unfold skipPass
    split
    · exact startPoll_trunkPath _ _ s
    · exact rfl
  | succ k ih =>
    unfold skipPass
    split
    · exact startPoll_trunkPath _ _ s
    · have h := advanceRoster_trunkPath s
      split
      · next e => rw [e] at h; exact h
      · next e => rw [e] at h; exact h.trans (ih _)

theorem makePoll_trunkPath (s : State) : TrunkPath s (makePoll s).1 := by
  unfold makePoll
  split
  · split
    · exact startPoll_trunkPath _ _ s
    · exact .refl s
  · exact skipPass_trunkPath _ s

theorem arbiter_trunkPath (k : Nat) (s : State) : TrunkPath s (arbiter k s) := by
  induction k generalizing s with
  | zero => exact .refl s
  | succ k ih =>
    have h := makePoll_trunkPath s
    unfold arbiter
    split
    · exact .refl s
    · split
      · split
        · next e => rw [e] at h; exact h.trans (ih _)
        · next e => rw [e] at h; exact h
      · split
        · exact startForward_trunkPath _ _ s
        · split
          · split
            · next e => rw [e] at h; exact h.trans (ih _)
            · next e => rw [e] at h; exact h
          · exact .refl s

/-- A decision of the arbiter, whatever it starts. -/
theorem arbitrate_trunkPath (s : State) : TrunkPath s (arbitrate s) := arbiter_trunkPath _ s

theorem endPoll_trunkPath (m : Bool) (s : State) : TrunkPath s (endPoll m s) := by
  unfold endPoll
  dsimp only
  split
  · exact (modTrunk_trunkPath s _).trans (arbitrate_trunkPath _)
  · exact (((modTrunk_trunkPath s _).trans (modTrunk_trunkPath _ _)).trans (advanceRoster_trunkPath _)).trans
      (arbitrate_trunkPath _)

theorem pollMissed_trunkPath (node : Node) (m : Bool) (s : State) : TrunkPath s (pollMissed node m s) := by
  unfold pollMissed
  dsimp only
  refine TrunkPath.trans ?_ (endPoll_trunkPath m _)
  split
  · exact ((modTrunk_trunkPath s _).trans (nodeLoss_trunkPath _ node)).trans (nodeSilent_slotPath _ node _).trunkPath
  · exact modTrunk_trunkPath s _

theorem takeReading_trunkPath (b : Bank) (acc : State × List Chan) (p : Chan × Reading) :
    TrunkPath acc.1 (takeReading b acc p).1 := rfl

theorem handleSample_trunkPath (node : Node) (payload : List Byte) (s : State) :
    TrunkPath s (handleSample node payload s) := by
  have readings : ∀ (xs : List (Chan × Reading)) (acc : State × List Chan),
      TrunkPath acc.1 (xs.foldl (takeReading s.acting) acc).1 := by
    intro xs
    induction xs with
    | nil => exact fun acc => .refl _
    | cons x xs ih => exact fun acc => (takeReading_trunkPath _ acc x).trans (ih _)
  unfold handleSample
  exact (readings _ (s, [])).trans
    (SlotPath.foldl _ (fun s n => slotReply_slotPath _ _ n s) _ _).trunkPath

theorem pollAccepted_trunkPath (node : Node) (m : Bool) (payload : List Byte) (s : State) :
    TrunkPath s (pollAccepted node m payload s) :=
  ((modTrunk_trunkPath s _).trans (handleSample_trunkPath node payload _)).trans (endPoll_trunkPath m _)

end Sys2Proof.Machine
end

