-- ==== Sys2Proof/WellFormed.lean ====
section
/-!
DEFINITION. Which commands are well formed. Slot numbers, session ids and strap values are in range by
their types; what is left to check is that a row that stands for bytes received carries the bytes it
needs. The meanings are defined on ill-formed commands as well, and change nothing beyond what their
bytes do.
-/

namespace Sys2Proof

/-- A run of received bytes holds at least one byte: one byte may already complete or abandon a frame
in assembly (R159, R160). -/
def runWellFormed (bytes : List RxByte) : Bool := !bytes.isEmpty

/-- A byte can abandon a trunk frame in reception only by a missing stop bit or, as a length byte, by a
value above 240 (R142). -/
def abandoningByte (b : RxByte) : Bool := !b.stop || Config.maxPayload < b.data.toNat

/-- Well-formed commands. -/
def Instr.wellFormed : Instr → Bool
  | .alinkFrameReceived bytes => runWellFormed bytes
  | .trunkFrameReceived bytes => runWellFormed bytes
  | .trunkFrameAbandoned b => abandoningByte b
  | .powerOn _ => true
  | .pinReset _ => true
  | .oneSecondTick _ => true
  | .minuteTick _ => true
  | .repeatAlert _ => true
  | .sessionExpiry _ => true
  | .forecastWindowClose _ => true
  | .alinkGapAbandon => true
  | .loadRecords => true
  | .readRecords => true
  | .copyBank => true
  | .switchBank => true
  | .cancelSwitch => true
  | .openRestock => true
  | .closeRestock => true
  | .ackSlot => true
  | .setAlertMask => true
  | .setZone => true
  | .setSourceRights => true
  | .lockZones => true
  | .readStatus => true
  | .readSlot => true
  | .readChannel => true
  | .readNodes => true
  | .readCounters => true
  | .clearCounters => true
  | .readFaults => true
  | .softReset => true
  | .undefinedRequest => true
  | .resetPoint => true
  | .responsePartGrant => true
  | .returnFrameGrant => true
  | .alertGrant => true
  | .uplinkFrameDone => true
  | .trunkFrameSent => true
  | .trunkGapAbandon => true
  | .replyWindowClose => true
  | .listenPeriodEnd => true
  | .huntByteReceived _ => true

end Sys2Proof
end

