-- ==== Sys2Proof/Laws/PerInstr.lean ====
section
/-!
SUPPORT. What well-formedness asks of each command, one lemma for each constructor.
-/

namespace Sys2Proof.Laws.WellFormed

open Sys2Proof

/-- The condition a command's operands must meet: a run of bytes is not empty, and a byte that abandons a
frame lacks its stop bit or is a length above 240. -/
def Needs : Instr → Prop
  | .alinkFrameReceived bytes => bytes ≠ []
  | .trunkFrameReceived bytes => bytes ≠ []
  | .trunkFrameAbandoned b => b.stop = false ∨ 240 < b.data.toNat
  | .powerOn _ => True
  | .pinReset _ => True
  | .oneSecondTick _ => True
  | .minuteTick _ => True
  | .repeatAlert _ => True
  | .sessionExpiry _ => True
  | .forecastWindowClose _ => True
  | .alinkGapAbandon => True
  | .loadRecords => True
  | .readRecords => True
  | .copyBank => True
  | .switchBank => True
  | .cancelSwitch => True
  | .openRestock => True
  | .closeRestock => True
  | .ackSlot => True
  | .setAlertMask => True
  | .setZone => True
  | .setSourceRights => True
  | .lockZones => True
  | .readStatus => True
  | .readSlot => True
  | .readChannel => True
  | .readNodes => True
  | .readCounters => True
  | .clearCounters => True
  | .readFaults => True
  | .softReset => True
  | .undefinedRequest => True
  | .resetPoint => True
  | .responsePartGrant => True
  | .returnFrameGrant => True
  | .alertGrant => True
  | .uplinkFrameDone => True
  | .trunkFrameSent => True
  | .trunkGapAbandon => True
  | .replyWindowClose => True
  | .listenPeriodEnd => True
  | .huntByteReceived _ => True

/-- A command is well formed exactly when its operands meet its condition. -/
def Statement (i : Instr) : Prop := i.wellFormed = true ↔ Needs i

/-- A run is well formed exactly when it is not empty. -/
theorem runWellFormed_iff (bytes : List RxByte) : runWellFormed bytes = true ↔ bytes ≠ [] := by
  simp [runWellFormed]

/-- A byte abandons a frame exactly when it lacks its stop bit or is a length above 240. -/
theorem abandoningByte_iff (b : RxByte) : abandoningByte b = true ↔ b.stop = false ∨ 240 < b.data.toNat := by
  simp [abandoningByte, Config.maxPayload]

theorem powerOn (strap : BitVec 3) : Statement (.powerOn strap) :=
  iff_of_true rfl trivial

theorem pinReset (strap : BitVec 3) : Statement (.pinReset strap) :=
  iff_of_true rfl trivial

theorem oneSecondTick (order : TickOrder) : Statement (.oneSecondTick order) :=
  iff_of_true rfl trivial

theorem minuteTick (order : TickOrder) : Statement (.minuteTick order) :=
  iff_of_true rfl trivial

theorem repeatAlert (n : Slot) : Statement (.repeatAlert n) :=
  iff_of_true rfl trivial

theorem sessionExpiry (id : SessionId) : Statement (.sessionExpiry id) :=
  iff_of_true rfl trivial

theorem forecastWindowClose (n : Slot) : Statement (.forecastWindowClose n) :=
  iff_of_true rfl trivial

theorem alinkFrameReceived (bytes : List RxByte) : Statement (.alinkFrameReceived bytes) :=
  runWellFormed_iff bytes

theorem alinkGapAbandon : Statement (.alinkGapAbandon) :=
  iff_of_true rfl trivial

theorem loadRecords : Statement (.loadRecords) :=
  iff_of_true rfl trivial

theorem readRecords : Statement (.readRecords) :=
  iff_of_true rfl trivial

theorem copyBank : Statement (.copyBank) :=
  iff_of_true rfl trivial

theorem switchBank : Statement (.switchBank) :=
  iff_of_true rfl trivial

theorem cancelSwitch : Statement (.cancelSwitch) :=
  iff_of_true rfl trivial

theorem openRestock : Statement (.openRestock) :=
  iff_of_true rfl trivial

theorem closeRestock : Statement (.closeRestock) :=
  iff_of_true rfl trivial

theorem ackSlot : Statement (.ackSlot) :=
  iff_of_true rfl trivial

theorem setAlertMask : Statement (.setAlertMask) :=
  iff_of_true rfl trivial

theorem setZone : Statement (.setZone) :=
  iff_of_true rfl trivial

theorem setSourceRights : Statement (.setSourceRights) :=
  iff_of_true rfl trivial

theorem lockZones : Statement (.lockZones) :=
  iff_of_true rfl trivial

theorem readStatus : Statement (.readStatus) :=
  iff_of_true rfl trivial

theorem readSlot : Statement (.readSlot) :=
  iff_of_true rfl trivial

theorem readChannel : Statement (.readChannel) :=
  iff_of_true rfl trivial

theorem readNodes : Statement (.readNodes) :=
  iff_of_true rfl trivial

theorem readCounters : Statement (.readCounters) :=
  iff_of_true rfl trivial

theorem clearCounters : Statement (.clearCounters) :=
  iff_of_true rfl trivial

theorem readFaults : Statement (.readFaults) :=
  iff_of_true rfl trivial

theorem softReset : Statement (.softReset) :=
  iff_of_true rfl trivial

theorem undefinedRequest : Statement (.undefinedRequest) :=
  iff_of_true rfl trivial

theorem resetPoint : Statement (.resetPoint) :=
  iff_of_true rfl trivial

theorem responsePartGrant : Statement (.responsePartGrant) :=
  iff_of_true rfl trivial

theorem returnFrameGrant : Statement (.returnFrameGrant) :=
  iff_of_true rfl trivial

theorem alertGrant : Statement (.alertGrant) :=
  iff_of_true rfl trivial

theorem uplinkFrameDone : Statement (.uplinkFrameDone) :=
  iff_of_true rfl trivial

theorem trunkFrameSent : Statement (.trunkFrameSent) :=
  iff_of_true rfl trivial

theorem trunkFrameReceived (bytes : List RxByte) : Statement (.trunkFrameReceived bytes) :=
  runWellFormed_iff bytes

theorem trunkGapAbandon : Statement (.trunkGapAbandon) :=
  iff_of_true rfl trivial

theorem replyWindowClose : Statement (.replyWindowClose) :=
  iff_of_true rfl trivial

theorem listenPeriodEnd : Statement (.listenPeriodEnd) :=
  iff_of_true rfl trivial

theorem huntByteReceived (b : RxByte) : Statement (.huntByteReceived b) :=
  iff_of_true rfl trivial

theorem trunkFrameAbandoned (b : RxByte) : Statement (.trunkFrameAbandoned b) :=
  abandoningByte_iff b

end Sys2Proof.Laws.WellFormed
end

