-- ==== Sys2Proof/Laws/Requests.lean ====
section
/-!
SUPPORT. How a request row reads: the management unit takes the frame the row names and carries it out, or the
row's event does not occur. One lemma for each way, and one for what a request may change.
-/

namespace Sys2Proof.Machine

/-! ## Taking a request -/

theorem Taking.nextRequest {s : State} {f : Frame} {src : Source} {code : Byte} {args : List Byte}
    (h : Taking s f src code args) : s.nextRequest = some f := by
  obtain ⟨h1, h2, h3, -⟩ := h
  simp [State.nextRequest, h1, h2, h3]

/-- The row whose code the request bears carries it out. -/
theorem takeRequest_of_taking {s : State} {f : Frame} {src : Source} {code : Byte} {args : List Byte}
    (h : Taking s f src code args) (k : Source → List Byte → State → Answer) :
    takeRequest code k s = finish f code (k src args s.dropRequest) := by
  simp [takeRequest, h.nextRequest, h.2.2.2]

/-- No other request row takes it. -/
theorem takeRequest_of_code_ne {s : State} {f : Frame} {src : Source} {code other : Byte} {args : List Byte}
    (h : Taking s f src code args) (hc : code ≠ other) (k : Source → List Byte → State → Answer) :
    takeRequest other k s = s := by
  simp [takeRequest, h.nextRequest, h.2.2.2, hc]

/-- With nothing to take, the event of a request row does not occur. -/
theorem takeRequest_of_none {s : State} (h : s.nextRequest = none) (code : Byte)
    (k : Source → List Byte → State → Answer) : takeRequest code k s = s := by
  simp [takeRequest, h]

/-- Everything a request row can do: nothing, or carry out the request it names. -/
theorem takeRequest_cases (s : State) (code : Byte) (k : Source → List Byte → State → Answer) :
    takeRequest code k s = s
      ∨ ∃ f src args, Taking s f src code args
          ∧ takeRequest code k s = finish f code (k src args s.dropRequest) := by
  unfold takeRequest
  split
  · exact .inl rfl
  · next f hf =>
    split
    · next src c args hs =>
      split
      · next hc =>
        subst hc
        refine .inr ⟨f, src, args, ?_, rfl⟩
        unfold State.nextRequest at hf
        split at hf
        · simp at hf
        · next hn =>
          simp at hn
          exact ⟨hn.1, hn.2, hf, hs⟩
      · exact .inl rfl
    · exact .inl rfl

/-! ## Answering it -/

/-- A request that brings no decision of the arbiter ends with its response in hand. -/
theorem finish_of_no_decision {f : Frame} {code : Byte} {a : Answer} (h : a.arbitrates = false) :
    finish f code a = a.state.respond f.tag code a.status a.results := by
  simp [finish, h]

/-- A request that brings a decision of the arbiter. -/
theorem finish_of_decision {f : Frame} {code : Byte} {a : Answer} (h : a.arbitrates = true) :
    finish f code a = arbitrate (a.state.respond f.tag code a.status a.results) := by
  simp [finish, h]

@[simp] theorem finish_plain (f : Frame) (code : Byte) (status : Status) (s : State) :
    finish f code (.plain status s) = s.respond f.tag code status [] := rfl

@[simp] theorem finish_denied (f : Frame) (code c : Byte) (src : Source) (n : Option Slot) (s : State) :
    finish f code (.denied src c n s) = (s.denial src c n).respond f.tag code .denied [] := rfl

/-- The answer to a request that had no effect. -/
theorem respond_dropRequest (s : State) (f : Frame) (code : Byte) (status : Status) (rs : List Byte) :
    s.dropRequest.respond f.tag code status rs = s.answered f code status rs := rfl

/-- The answer to a request that was denied. -/
theorem respond_denial_dropRequest (s : State) (f : Frame) (code c : Byte) (src : Source) (n : Option Slot)
    (status : Status) (rs : List Byte) :
    (s.dropRequest.denial src c n).respond f.tag code status rs
      = (s.denial src c n).answered f code status rs := rfl

@[simp] theorem Answer.plain_status (status : Status) (s : State) : (Answer.plain status s).status = status := rfl
@[simp] theorem Answer.plain_results (status : Status) (s : State) : (Answer.plain status s).results = [] := rfl
@[simp] theorem Answer.plain_state (status : Status) (s : State) : (Answer.plain status s).state = s := rfl
@[simp] theorem Answer.plain_arbitrates (status : Status) (s : State) :
    (Answer.plain status s).arbitrates = false := rfl

/-! ## Denials -/

/-- A denial writes the protection capture and nothing else. -/
theorem denial_eq (s : State) (src : Source) (code : Byte) (n : Option Slot) :
    ∃ c, s.denial src code n = { s with zones := { s.zones with capture := some c } } := ⟨_, rfl⟩

@[simp] theorem State.denial_store (s : State) (src : Source) (code : Byte) (n : Option Slot) :
    (s.denial src code n).store = s.store := rfl
@[simp] theorem State.denial_slots (s : State) (src : Source) (code : Byte) (n : Option Slot) :
    (s.denial src code n).slots = s.slots := rfl
@[simp] theorem State.denial_alerts (s : State) (src : Source) (code : Byte) (n : Option Slot) :
    (s.denial src code n).alerts = s.alerts := rfl
@[simp] theorem State.denial_sessions (s : State) (src : Source) (code : Byte) (n : Option Slot) :
    (s.denial src code n).sessions = s.sessions := rfl
@[simp] theorem State.denial_mgmt (s : State) (src : Source) (code : Byte) (n : Option Slot) :
    (s.denial src code n).mgmt = s.mgmt := rfl
@[simp] theorem State.denial_trunk (s : State) (src : Source) (code : Byte) (n : Option Slot) :
    (s.denial src code n).trunk = s.trunk := rfl
@[simp] theorem State.denial_holds (s : State) (src src' : Source) (code : Byte) (n : Option Slot) (r : SlotRight)
    (m : Slot) : (s.denial src code n).zones.holds src' r m = s.zones.holds src' r m := rfl

/-! ## LOAD_RECORDS -/

/-- One record of a LOAD_RECORDS changes the named bank and the protection capture at most. -/
theorem loadRecord_eq (src : Source) (a : LoadArgs) (t : Table) (bank : BankId) (s : State) (p : LoadProgress)
    (r : List Byte) : ∃ b c, (loadRecord src a t bank (s, p) r).1 = { s with
      store := s.store.setBank bank b
      zones := { s.zones with capture := c } } := by
  have same : s.store.setBank bank (s.store.bank bank) = s.store := by cases bank <;> rfl
  unfold loadRecord
  dsimp only
  split
  · refine ⟨s.store.bank bank, (s.denial src codeLoadRecords (loadDeniedSlot t p.pointer)).zones.capture, ?_⟩
    rw [same]
    rfl
  · split
    · exact ⟨s.store.bank bank, s.zones.capture, by rw [same]⟩
    · split
      · exact ⟨_, s.zones.capture, rfl⟩
      · exact ⟨s.store.bank bank, s.zones.capture, by rw [same]⟩

/-- The load pointer moves after every record, whatever became of it. -/
theorem loadRecord_pointer (src : Source) (a : LoadArgs) (t : Table) (bank : BankId) (s : State)
    (p : LoadProgress) (r : List Byte) :
    (loadRecord src a t bank (s, p) r).2.pointer = nextPosition a p.pointer := by
  unfold loadRecord
  dsimp only
  split
  · rfl
  · split
    · rfl
    · split <;> rfl

end Sys2Proof.Machine
end

