-- ==== Sys2Proof/Laws/Wire.lean ====
section
/-!
SUPPORT. Lengths and fields of what the wire formats make.
-/

namespace Sys2Proof.Machine

@[simp] theorem beBytes_length (k v : Nat) : (beBytes k v).length = k := by
  induction k generalizing v with
  | zero => rfl
  | succ k ih => simp [beBytes, ih]

@[simp] theorem beInt_length (k : Nat) (x : Int) : (beInt k x).length = k := by
  simp [beInt]

@[simp] theorem optBytes_length (k : Nat) (x : Option Nat) : (optBytes k x).length = k + 1 := by
  simp [optBytes]

@[simp] theorem formFrame_addr (a k : Byte) (p : List Byte) : (formFrame a k p).addr = a := rfl
@[simp] theorem formFrame_kind (a k : Byte) (p : List Byte) : (formFrame a k p).kind = k := rfl
@[simp] theorem formFrame_payload (a k : Byte) (p : List Byte) : (formFrame a k p).payload = p := rfl

/-- A frame the part forms carries the right CRC (R187). -/
@[simp] theorem formFrame_crcOk (a k : Byte) (p : List Byte) : (formFrame a k p).crcOk = true := by
  simp [formFrame, Frame.crcOk]

@[simp] theorem AlertEntry.toBytes_length (e : AlertEntry) : e.toBytes.length = 16 := by
  simp [AlertEntry.toBytes]

@[simp] theorem RosterHeader.toBytes_length (h : RosterHeader) : h.toBytes.length = 4 := rfl

@[simp] theorem entryBytes_length (e : Option Node) : (entryBytes e).length = 4 := rfl

/-- A framing error in a frame abandons it (R160). -/
theorem receive_framing_error (b : RxByte) (h : b.stop = false) (a : Assembler) (hs : a.state ≠ .hunt) :
    a.receive b = (Assembler.reset, .framingInFrame) := by
  unfold Assembler.receive
  split
  · contradiction
  all_goals simp [h]

/-- A byte in a frame that neither completes nor abandons it brings about nothing outside the assembler. -/
theorem body_nothing (a : Assembler) (d : Byte) : (a.body d).2 = .nothing := rfl

end Sys2Proof.Machine
end

