-- ==== Sys2Proof/Tests/Slice0.lean ====
section
/-!
SUPPORT. The model's own tests: the refusals of well-formedness, the worked examples of the spec, and one small
step for commands the examples do not reach. Every expected value is the spec's, or follows from a rule by
hand; the comment before a test names its source.
-/

namespace Sys2Proof.Tests

open Sys2Proof Sys2Proof.Machine

-- The evaluations below are run one after another, not side by side.
set_option Elab.async false

/-! ## Small states -/

/-- A configuration record that may be enabled, with the smallest settings. -/
def cfg0 : SlotCfg := { SlotCfg.reset with
  enabled := true, unitWeight := 1, width := 1, threshold := 1, band := 1, interval := 1
  ambiguity := 1, motionLimit := 1 }

/-- Slot 163 of chapters 3 and 4. -/
def cfg163 : SlotCfg := { cfg0 with
  width := 8, threshold := 6, band := 400, motionLimit := 15, unitWeight := 1250, tare := 18400
  tolerance := 20, ambiguity := 3, putLimit := 2, forecast := 30, reorder := 10, clear := 20 }

def setCfg (n : Slot) (c : SlotCfg) (b : Bank) : Bank := { b with cfgs := b.cfgs.set n c }
def setMap (c : Chan) (m : ChanMap) (b : Bank) : Bank := { b with chans := b.chans.set c m }
def setEntry (p : Fin 128) (e : Option Node) (len : Byte) (b : Bank) : Bank :=
  { b with roster := b.roster.set p e, header := { b.header with length := len } }

/-- A LIVE member of a slot, one gram for one count. -/
def live (n : Slot) : ChanMap := ⟨some n, .live, false, 0, 4096⟩

/-- A part whose bank A serves. -/
def serving (b : Bank) : State :=
  { State.reset with store := { bankA := b, bankB := Bank.reset, serving := some .A, requested := none } }

/-- What a command makes of a state. -/
def run (c : Instr) (s : State) : State :=
  match exec c s with
  | .next t => t
  | .fault _ => s
  | .refused _ => s

/-- A request frame of a source, with tag 3, to station 56. -/
def request (src code : Byte) (args : List Byte) : Frame :=
  formFrame (addrByte 56 false) (kindByte 3 kindMgmtReq) (src :: code :: args)

/-- A state whose request queue holds one request. -/
def asked (src code : Byte) (args : List Byte) (s : State) : State :=
  { s with mgmt := { s.mgmt with requests := [request src code args], response := none } }

/-- The first part of the response in hand. -/
def answer (s : State) : List Byte := (s.mgmt.response.bind fun r => r.parts.head?).getD []

/-- The queued alerts: key, kind and tier. -/
def queued (s : State) : List (AlertKey × AlertKind × Bool) :=
  s.alerts.map fun e => (e.alert.key, e.alert.kind, e.urgent)

/-- A state with one poll's reply window open. -/
def polling (node : Node) (tag : BitVec 4) (s : State) : State :=
  { s with trunk := { s.trunk with txn := some ⟨.poll node tag false, pollFrame node tag, false, 4⟩ } }

/-- A SAMPLE whose eight readings are good with this count. -/
def sample (node : Node) (tag : BitVec 4) (g : Int) : Frame :=
  formFrame (addrByte (nodeAddress node) true) (kindByte tag kindSample)
    ((List.replicate 8 (0 :: beInt 3 g)).flatten)

/-! ## Well-formedness refuses what it should -/

theorem test_empty_alink_run_is_ill_formed : Instr.wellFormed (.alinkFrameReceived []) = false := by decide

theorem test_empty_trunk_run_is_ill_formed : Instr.wellFormed (.trunkFrameReceived []) = false := by decide

/-- 240 is the largest length byte, so it abandons nothing (R142, R159). -/
theorem test_harmless_byte_is_ill_formed : Instr.wellFormed (.trunkFrameAbandoned ⟨240, true⟩) = false := by
  decide

theorem test_abandoning_bytes_are_well_formed :
    Instr.wellFormed (.trunkFrameAbandoned ⟨241, true⟩) = true
    ∧ Instr.wellFormed (.trunkFrameAbandoned ⟨0, false⟩) = true
    ∧ Instr.wellFormed (.huntByteReceived ⟨0, false⟩) = true := by decide

/-- The table gives bits to no row. -/
theorem test_no_word_spells_a_command :
    decodeTableWord 16 0 = none ∧ State.reset.withFetchWord 32 7 = State.reset := by
  exact ⟨rfl, rfl⟩

/-! ## The wire (chapter 12) -/

/-- R187: the check value over the ASCII bytes "123456789". -/
theorem test_crc_check_value :
    crc16 [0x31, 0x32, 0x33, 0x34, 0x35, 0x36, 0x37, 0x38, 0x39] = 0x29B1 := by decide +kernel

/-- Table 12-1: station in bits 7 to 2, direction in bit 1; kind in bits 3 to 0, tag in bits 7 to 4. -/
theorem test_address_and_kind_bytes :
    addrByte 56 true = 0xE2 ∧ addrByte 3 false = 0x0C ∧ kindByte 5 kindPoll = 0x51 ∧ kindByte 15 kindAlert = 0xFA
    ∧ (Frame.mk 0xE2 0x51 [] 0).station = 56 ∧ (Frame.mk 0xE2 0x51 [] 0).tag = 5
    ∧ (Frame.mk 0xE2 0x51 [] 0).kindCode = 1 := by decide +kernel

/-- Table 12-5, laid out by hand: enabled, REPEAT, U 1,250, tare 18,400, t 20, W 8, T 6, B 400, P 10, Q 20. -/
theorem test_slot_record_bytes :
    ({ cfg163 with mode := .repeating, article := 0x0001F3A2, lead := 120 } : SlotCfg).toBytes
      = [0x21, 0x00, 0x01, 0xF3, 0xA2, 0x04, 0xE2, 0x00, 0x47, 0xE0, 0x14, 0x08, 0x06, 0x01, 0x90,
         0x00, 0x0A, 0x00, 0x14, 0x01, 0x02, 0x03, 0x0F, 0x1E, 0x00, 0x78, 0x00] := by decide +kernel

/-- Table 12-5: a HOLD member of slot 40 with invert, offset -3,500 and gain 4,915. -/
theorem test_channel_record_bytes :
    (ChanMap.mk (some 40) .hold true (BitVec.ofInt 24 (-3500)) 4915).toBytes
      = [0x28, 0x0B, 0xFF, 0xF2, 0x54, 0x13, 0x33, 0x00] := by decide +kernel

/-- Table 12-6: an EMPTY of slot 30 with article code and time, and a LAPSED of session 1. -/
theorem test_alert_entry_bytes :
    (AlertEntry.mk ⟨.slot 30, .empty, .noReason, some 0, none, none, some 0x0007C110, 9315⟩ true).toBytes
      = [6, 30, 0x85, 0, 0, 0, 0, 0, 0x00, 0x07, 0xC1, 0x10, 0, 0, 0x24, 0x63]
    ∧ (AlertEntry.mk ⟨.session 1, .lapsed, .noReason, none, some 32, none, none, 1⟩ false).toBytes
      = [1, 1, 0, 0, 0, 0, 0, 0, 0, 0, 0, 32, 0, 0, 0, 1] := by decide +kernel

/-! ## Conversion, settle windows, counting (chapters 2 to 4) -/

/-- Table 2-2. -/
theorem test_table_2_2 :
    toGrams ⟨some 0, .live, false, BitVec.ofInt 24 (-3500), 4915⟩ 395118 = 478322
    ∧ toGrams ⟨some 0, .live, false, 0, 1⟩ 6144 = 2
    ∧ toGrams ⟨some 0, .live, false, 0, 1⟩ (BitVec.ofInt 24 (-6144)) = -2
    ∧ toGrams ⟨some 0, .live, true, 0, 1⟩ (BitVec.ofInt 24 (-6144)) = 2
    ∧ toGrams ⟨some 0, .live, false, 0, 1000⟩ 8000000 = 1048575 := by decide +kernel

/-- The samples of Table 3-5 with slot 163's band. -/
def window1 : Window :=
  [75925, 76480, 75898, 75912, 75930, 75905, 75920].foldl (fun w x => Window.take (some w) 400 x)
    (Window.take none 400 75910)

/-- Table 3-5: eight samples, seven in agreement. -/
theorem test_table_3_5 :
    window1 = ⟨75910, 531400, 7, 8⟩ ∧ window1.verdict 8 6 = .settled ∧ window1.settledWeight = 75914 := by
  decide +kernel

/-- Tables 3-6 and 3-10: early closes and the rounding of negative halves. -/
theorem test_table_3_10 :
    (Window.mk 75918 75918 1 3).verdict 8 6 = .stays ∧ (Window.mk 75918 75918 1 4).verdict 8 6 = .unsettled
    ∧ (Window.mk (-7) (-7) 1 1).verdict 1 1 = .settled
    ∧ (Window.mk (-4) (-7) 2 2).settledWeight = -3 ∧ (Window.mk 3 7 2 2).settledWeight = 4
    ∧ (Window.mk 1000 1000 1 2).verdict 5 5 = .unsettled
    ∧ Window.take (some ⟨1000, 1000, 1, 1⟩) 100 1100 = ⟨1000, 2100, 2, 2⟩
    ∧ (Window.mk 5 5 1 61).verdict 62 1 = .stays ∧ (Window.mk 5 5 1 62).verdict 62 1 = .settled := by
  decide +kernel

/-- Table 3-7: the close at second 9,315 reaches the motion limit. -/
theorem test_table_3_7 :
    let s := (serving (setCfg 163 cfg163 Bank.reset)).modSlot 163 fun v =>
      { v with stock := .stocked, count := some 46, motion := some 9300 }
    let t := unsettledClose s.acting 163 { s with time := { s.time with seconds := 9315 } }
    (t.slot 163).motion = some 9300 ∧ (t.slot 163).motionReported = true
      ∧ t.alerts.map (·.alert)
        = [⟨.slot 163, .inspect, .motion, some 46, none, none, some 0, 9315⟩] := by decide +kernel

/-- U 10, tare 0, t 127. -/
def cfgU10 : SlotCfg := { cfg0 with unitWeight := 10, tolerance := 127 }

/-- U 500, tare 0, t 0. -/
def cfgU500 : SlotCfg := { cfg0 with unitWeight := 500 }

/-- Table 4-4. -/
theorem test_table_4_4 :
    (rawCount cfg163 75912 = 46 ∧ residueOf cfg163 75912 = 12 ∧ accepted cfg163 75912 = true)
    ∧ (rawCount cfg163 76500 = 46 ∧ residueOf cfg163 76500 = 600 ∧ accepted cfg163 76500 = false)
    ∧ (rawCount cfg163 76525 = 47 ∧ residueOf cfg163 76525 = -625 ∧ accepted cfg163 76525 = false)
    ∧ (rawCount cfg163 18100 = 0 ∧ accepted cfg163 18100 = false)
    ∧ (countOf cfg163 18380 = 0 ∧ accepted cfg163 18380 = true)
    ∧ (rawCount cfg163 17700 = -1 ∧ countOf cfg163 17700 = 0 ∧ accepted cfg163 17700 = false)
    ∧ (countOf cfgU10 655352 = 65535 ∧ accepted cfgU10 655352 = true)
    ∧ (rawCount cfgU10 655356 = 65536 ∧ countOf cfgU10 655356 = 65535 ∧ residueOf cfgU10 655356 = 6
      ∧ accepted cfgU10 655356 = false)
    ∧ accepted cfgU500 4000 = true ∧ accepted cfgU500 4001 = false := by decide +kernel

/-- Slot 163 before step 7 of Table 4-6. -/
def before7 : State := (serving (setCfg 163 cfg163 Bank.reset)).modSlot 163 fun v =>
  { v with stock := .stocked, count := some 42, removed := 1204, putBack := 37, replenished := 2960
           removedSum := 9, elapsed := some 0 }

/-- Table 4-6, step 7: a put-back of 3 above the put limit. -/
theorem test_table_4_6_put_back :
    let t := counting before7.acting 163 74650 before7
    (t.slot 163).count = some 45 ∧ (t.slot 163).putBack = 40 ∧ (t.slot 163).removedSum = 6
      ∧ (t.slot 163).inspection = some .addition ∧ queued t = [(.slot 163, .inspect, false)] := by decide +kernel

/-- Table 4-6, step 8: a replenishment of 20 under a session over slots 160 to 170. -/
theorem test_table_4_6_replenishment :
    let s := (before7.modSlot 163 fun v => { v with count := some 45 }).setSession 0 (some ⟨160, 170, 2, 0, 99, 0⟩)
    let t := counting s.acting 163 99650 s
    (t.slot 163).count = some 65 ∧ (t.slot 163).replenished = 2980 ∧ (t.slot 163).removedSum = 9
      ∧ (t.session 0).map (·.added) = some 20 ∧ t.alerts = [] := by decide +kernel

/-! ## Stock states and forecast (chapters 5 and 6) -/

/-- Table 5-4, from UNKNOWN, STOCKED, LOW and EMPTY in turn. -/
theorem test_table_5_4 :
    let row := fun c => [StockState.unknown, .stocked, .low, .empty].map (classify 10 20 c)
    row 0 = [.empty, .empty, .empty, .empty] ∧ row 1 = [.low, .low, .low, .low]
    ∧ row 10 = [.low, .low, .low, .low] ∧ row 11 = [.stocked, .stocked, .low, .low]
    ∧ row 20 = [.stocked, .stocked, .low, .low] ∧ row 21 = [.stocked, .stocked, .stocked, .stocked] := by
  decide +kernel

/-- Table 6-3. -/
theorem test_table_6_3 :
    projectionOf (some 46) 30 (some 12) = 115 ∧ projectionOf (some 53) 30 (some 11) = 144
    ∧ projectionOf (some 0) 30 (some 12) = 0 ∧ projectionOf (some 65535) 255 (some 1) = 65535
    ∧ projectionOf (some 46) 30 (some 0) = 65535 ∧ projectionOf (some 46) 30 none = 65535
    ∧ projectionOf (some 5) 255 (some 16777215) = 0 := by decide +kernel

/-- Slot 208 of Table 5-8. -/
def cfg208 : SlotCfg := { cfg0 with
  reorder := 10, clear := 20, mode := .repeating, interval := 30, emptyAlert := true, notify := true }

/-- Table 5-10, last row: the first tick after the fault repeats EMPTY and takes the deadline past 7,601. -/
theorem test_repeat_after_fault :
    let s := (serving (setCfg 208 cfg208 Bank.reset)).modSlot 208 fun v =>
      { v with stock := .empty, count := some 0, deadline := some 7510 }
    let t := run (.repeatAlert 208) { s with time := ⟨0, 7601, 0⟩ }
    (t.slot 208).deadline = some 7630 ∧ queued t = [(.slot 208, .empty, true)] := by decide +kernel

/-- Table 6-5, minute 6,030: window 1 closes with 53 in stock and 11 taken. -/
theorem test_forecast_window_1 :
    let s := (serving (setCfg 57 { cfg0 with reorder := 8, clear := 16, forecast := 30, lead := 120 }
        Bank.reset)).modSlot 57 fun v =>
      { v with stock := .stocked, count := some 53, removedSum := 11, elapsed := some 30 }
    let t := run (.forecastWindowClose 57) s
    (t.slot 57).rate = some 11 ∧ (t.slot 57).projection = 144 ∧ (t.slot 57).elapsed = some 0
      ∧ (t.slot 57).armed = true ∧ t.alerts = [] := by decide +kernel

/-! ## Restock sessions (chapter 7) -/

/-- Slots 120 and 121 at the end of the session of section 7.5. -/
def session75 : State :=
  let b := setCfg 120 { cfg208 with reorder := 6, clear := 14, interval := 15 }
    (setCfg 121 { cfg208 with mode := .once } Bank.reset)
  ((((serving b).modSlot 120 fun v =>
      { v with stock := .low, count := some 12, acked := true, deadline := some 7998, deficit := true }).modSlot
    121 fun v => { v with stock := .stocked, count := some 25, deficit := true }).setSession 1
      (some ⟨120, 123, 2, 0, 8020, 32⟩))

/-- Table 7-5, close taken first. -/
theorem test_table_7_5_close :
    let t := run .closeRestock (asked 2 0x11 [1] { session75 with time := ⟨0, 8019, 0⟩ })
    answer t = [0x11, 0, 0x80, 0, 0, 0, 32] ∧ t.session 1 = none
      ∧ queued t = [(.slot 120, .low, false), (.slot 121, .recovered, false)]
      ∧ (t.slot 120).deadline = some 8034 ∧ (t.slot 120).acked = false := by decide +kernel

/-- Table 7-5, expiry taken first. -/
theorem test_table_7_5_expiry :
    let t := run (.sessionExpiry 1) { session75 with time := ⟨0, 8020, 0⟩ }
    t.session 1 = none ∧ (t.slot 120).deadline = some 8035
      ∧ queued t = [(.session 1, .lapsed, false), (.slot 120, .low, false), (.slot 121, .recovered, false)]
      ∧ answer (run .closeRestock (asked 2 0x11 [1] t)) = [0x11, 15, 0x80] := by decide +kernel

/-- Section 7.5.1: the opening, and the overlap with it. -/
theorem test_open_restock :
    let s := { session75.setSession 1 none with time := ⟨55, 8000, 0⟩ }
    let t := run .openRestock (asked 2 0x10 [120, 123, 20] (s.setSession 0 (some ⟨10, 19, 1, 0, 9000, 0⟩)))
    answer t = [0x10, 0, 0x80, 1, 0, 0, 0x1F, 0x54] ∧ t.session 1 = some ⟨120, 123, 2, 55, 8020, 0⟩
      ∧ (t.slot 120).deficit = true ∧ (t.slot 121).deficit = false
      ∧ answer (run .openRestock (asked 2 0x10 [118, 121, 20] t)) = [0x10, 13, 0x80, 1] := by decide +kernel

/-! ## The alert queue (chapter 8) -/

/-- A queued entry with no details. -/
def entry (n : Slot) (k : AlertKind) (urgent : Bool) : AlertEntry :=
  ⟨⟨.slot n, k, .noReason, some 1, none, none, some 0, 0⟩, urgent⟩

/-- A full queue: 64 LOW entries of slots 100 to 163. -/
def fullQueue : State :=
  (serving Bank.reset).setAlerts ((allSlots.drop 100).take 64 |>.map fun n => entry n .low false)

/-- Table 8-7, steps 3 and 6: against a full queue the slot is held back, and a higher rank takes its place. -/
theorem test_held_back_on_a_full_queue :
    let s := raiseStock Bank.reset 200 .low fullQueue
    let t := raiseAlert Bank.reset (slotAlert Bank.reset 200 .fault .nodeSilent none none s) s
    (s.slot 200).held = some .low ∧ s.mgmt.counters.queueOverflow = 1 ∧ s.alerts = fullQueue.alerts
      ∧ (t.slot 200).held = some .fault ∧ t.mgmt.counters.queueOverflow = 1 := by decide +kernel

/-- Table 8-7, step 9: an acknowledgement withdraws the slot's LOW, and the held-back slot takes the place. -/
theorem test_ack_reoffers :
    let s := fullQueue.modSlot 200 fun v => { v with held := some .fault, fault := some .nodeSilent, count := some 7 }
    let t := run .ackSlot (asked 0 0x12 [120] s)
    (t.slot 120).acked = true ∧ (t.slot 200).held = none ∧ t.alerts.length = 64
      ∧ t.alerts.head?.map (·.alert) = some ⟨.slot 200, .fault, .nodeSilent, some 7, none, none, some 0, 0⟩
      ∧ answer t = [0x12, 0, 0x80, 0] := by decide +kernel

/-- Table 8-7, step 10: four entries leave in one frame of length 65, and the sequence advances. -/
theorem test_alert_grant :
    let t := run .alertGrant fullQueue
    t.alerts.length = 60 ∧ t.alerts.head?.map (·.alert.key) = some (.slot 104) ∧ t.link.alertSeq = 1
      ∧ t.link.uplink.map (fun u => (u.frame.payload.length, u.frame.kind, u.frame.addr))
        = some (65, 0x0A, 0xE2) := by decide +kernel

/-- Table 8-7, step 11: setting bit 2 suppresses FORECAST, whose entry is withdrawn. -/
theorem test_set_alert_mask :
    let s := (serving Bank.reset).setAlerts [entry 1 .low false, entry 95 .forecast false]
    let t := run .setAlertMask (asked 0 0x13 [4, 0] s)
    queued t = [(.slot 1, .low, false)] ∧ answer t = [0x13, 0, 0x80, 4] := by decide +kernel

/-! ## The shelf trunk (chapter 9) -/

/-- Steps 1 and 2 of Table 9-3: a SAMPLE with the poll's tag is accepted and the next entry is polled. -/
theorem test_accepted_reply_polls_the_next_entry :
    let b := setEntry 0 (some 2) 2 (setEntry 1 (some 6) 2 Bank.reset)
    let s := { polling 2 5 (serving b) with pending := [] }
    let t := run (.trunkFrameReceived (rxBytes (sample 2 5 9).wire))
      { s with trunk := { s.trunk with pollTag := 6 } }
    (t.node 2).state = .alive ∧ t.trunk.rosterPtr = 1 ∧ t.trunk.interleave = 1 ∧ t.trunk.pollTag = 7
      ∧ t.trunk.txn.map (fun x => (x.frame.station, x.frame.tag, x.sending)) = some (7, 6, true)
      ∧ (t.chan 16).lastRaw = some ⟨.ok, 9⟩ := by decide +kernel

/-- Step 6 of Table 9-3: a stale SAMPLE is counted late and the window goes on. -/
theorem test_stale_reply :
    let s := polling 8 9 (serving Bank.reset)
    let t := run (.trunkFrameReceived (rxBytes (sample 8 3 0).wire)) s
    (t.node 8).late = 1 ∧ t.trunk.txn = s.trunk.txn := by decide +kernel

/-- Section 9.8, next cycle: the third miss makes the node SILENT and fills the capture. -/
theorem test_third_miss_silences :
    let s := (polling 11 0 (serving (setEntry 0 (some 11) 1 Bank.reset))).modNode 11 fun r =>
      { r with state := .alive, streak := 2 }
    let t := run .replyWindowClose { s with time := ⟨77, 0, 0⟩ }
    (t.node 11).state = .silent ∧ (t.node 11).misses = 1 ∧ t.trunk.capture = some ⟨11, 77, false, 0⟩ := by
  decide +kernel

/-- R144, R145: a forward that is not answered puts FWD_FAIL with the command code in the return queue. -/
theorem test_forward_failure :
    let f := formFrame (addrByte 9 false) (kindByte 12 kindNodeCmd) [0x10, 1]
    let s := { serving Bank.reset with trunk := { Trunk.reset with
      txn := some ⟨.forward (some 8) none, f, false, 4⟩ } }
    (run .replyWindowClose s).link.returns = [formFrame 0x26 0xC5 [0x10]] := by decide +kernel

/-- R142: a gap in a frame, and a byte without a stop bit, end a poll as a miss. -/
theorem test_abandoned_reply_is_a_miss :
    let s := polling 4 0 (serving Bank.reset)
    let t := { s with trunk := { s.trunk with rx := { Assembler.reset with state := .header } } }
    ((run .trunkGapAbandon t).node 4).misses = 1
      ∧ ((run (.trunkFrameAbandoned ⟨0, false⟩) t).node 4).misses = 1
      ∧ ((run (.trunkFrameAbandoned ⟨0, true⟩) t).node 4).misses = 0 := by decide +kernel

/-- R142: the last byte of a POLL opens its reply window. -/
theorem test_trunk_frame_sent :
    let s := polling 4 0 (serving Bank.reset)
    let t := { s with trunk := { s.trunk with txn := s.trunk.txn.map fun x => { x with sending := true } } }
    t.trkDe = true ∧ (run .trunkFrameSent t).trunk.txn = s.trunk.txn := by decide +kernel

/-- R156: the listening period ends with the first poll. -/
theorem test_listen_period_end :
    let s := serving (setEntry 0 (some 2) 1 Bank.reset)
    let t := run .listenPeriodEnd { s with trunk := { s.trunk with listening := some 4 } }
    t.trunk.listening = none ∧ t.trunk.txn.map (·.frame) = some (pollFrame 2 0) := by decide +kernel

/-! ## The aisle link (chapter 10) -/

/-- R158 to R162: a whole request frame, preamble first, joins the request queue. -/
theorem test_request_frame_is_queued :
    (run (.alinkFrameReceived (rxBytes (request 3 0x30 []).wire)) State.reset).mgmt.requests
      = [request 3 0x30 []] := by decide +kernel

/-- R159, R160: the same frame with its last byte changed is a CRC error. -/
theorem test_crc_error :
    let t := run (.alinkFrameReceived (rxBytes ((request 3 0x30 []).wire.dropLast ++ [0]))) State.reset
    t.mgmt.requests = [] ∧ t.mgmt.counters.crc = 1 ∧ t.link.rx = Assembler.reset := by decide +kernel

/-- R158: the fourth and the fifth preamble byte, then an address byte. -/
theorem test_hunt :
    let s := { State.reset with link := { AisleLink.reset with rx := { Assembler.reset with preamble := 3 } } }
    let t := run (.huntByteReceived ⟨0xD5, true⟩) s
    t.link.rx.preamble = 4 ∧ (run (.huntByteReceived ⟨0xD5, true⟩) t).link.rx.preamble = 4
      ∧ (run (.huntByteReceived ⟨0xE0, true⟩) t).link.rx.state = .header
      ∧ (run (.huntByteReceived ⟨0xE0, true⟩) s).link.rx = Assembler.reset := by decide +kernel

/-- R160: a gap in a frame is counted, a gap in HUNT is not. -/
theorem test_gap :
    let s := { State.reset with link := { AisleLink.reset with rx := { Assembler.reset with state := .header } } }
    (run .alinkGapAbandon s).mgmt.counters.gap = 1 ∧ (run .alinkGapAbandon State.reset).mgmt.counters.gap = 0 := by
  decide +kernel

/-- R163, R164: the head of the return queue is sent, and its last byte leaves the uplink idle. -/
theorem test_return_frame :
    let f := formFrame 0x26 0xC5 [0x10]
    let t := run .returnFrameGrant { State.reset with link := { AisleLink.reset with returns := [f] } }
    t.link.returns = [] ∧ t.link.uplink = some ⟨f, false⟩ ∧ (run .uplinkFrameDone t).link.uplink = none := by
  decide +kernel

/-- R165, R166: the response to a READ_COUNTERS, twenty zero bytes, with the request's tag. -/
theorem test_read_counters_response :
    let t := run .responsePartGrant (run .readCounters (asked 3 0x34 [] State.reset))
    t.link.uplink = some ⟨formFrame 0xE2 0x39 (0x34 :: 0 :: 0x80 :: List.replicate 20 0), false⟩
      ∧ t.mgmt.response = none := by decide +kernel

/-! ## Requests -/

/-- R166: an unknown code, a bad source and a wrong length. -/
theorem test_undefined_requests :
    answer (run .undefinedRequest (asked 0 0x77 [] State.reset)) = [0x77, 9, 0x80]
    ∧ answer (run .undefinedRequest (asked 8 0x30 [] State.reset)) = [0x30, 11, 0x80]
    ∧ answer (run .undefinedRequest (asked 0 0x04 [] State.reset)) = [0x04, 9, 0x80] := by decide +kernel

/-- The records of section 10.3.2, slots 40 to 43 of bank B. -/
def bank1032 : Bank :=
  let r := fun a : Word => ({ cfg0 with article := a, reorder := 8, clear := 12 } : SlotCfg)
  setCfg 40 (r 0x1F3A2) (setCfg 41 (r 0x7C110) (setCfg 42 (r 0x7C110) (setCfg 43 (r 0x7C110) Bank.reset)))

/-- A 27-byte record that carries P and Q. -/
def record1032 (p q : Byte) : List Byte := List.replicate 16 0 ++ [p, 0, q] ++ List.replicate 8 0

/-- Section 10.3.2: one record written, one refused, one skipped, one stored with Q raised to P. -/
theorem test_worked_load :
    let s := { State.reset with
      store := { bankA := Bank.reset, bankB := bank1032, serving := some .A, requested := none }
      zones := { Zones.reset with zones := Zones.reset.zones.set 0 ⟨43, 43, Vector.replicate 8 ⟨false, true, true⟩⟩ } }
    let t := run .loadRecords (asked 3 0x01
      ([0, 2, 40, 43, 42, 0, 0, 3, 0, 1, 1, 0, 0x07, 0xC1, 0x10, 4] ++ record1032 20 30 ++ record1032 20 30
        ++ record1032 20 30 ++ record1032 25 18) s)
    answer t = [0x01, 0, 0x80, 2, 2, 1, 43, 5, 42]
      ∧ (t.store.bankB.cfg 42).reorder = 20 ∧ (t.store.bankB.cfg 42).clear = 30
      ∧ (t.store.bankB.cfg 41).reorder = 25 ∧ (t.store.bankB.cfg 41).clear = 25
      ∧ (t.store.bankB.cfg 40).reorder = 8 ∧ (t.store.bankB.cfg 43).reorder = 8
      ∧ t.zones.capture = some ⟨3, 0x01, some 43, 0, false, 0⟩ := by decide +kernel

/-- R170: the roster header at position 128 of an emptied bank; position 129 does not exist. -/
theorem test_read_records :
    answer (run .readRecords (asked 0 0x02 [2, 1, 128, 1] State.reset)) = [0x02, 0, 0x80, 0, 0, 4, 0]
    ∧ answer (run .readRecords (asked 0 0x02 [2, 1, 128, 2] State.reset)) = [0x02, 10, 0x80] := by decide +kernel

/-- R171: COPY_BANK while the serving bank is NONE, and from bank A. -/
theorem test_copy_bank :
    answer (run .copyBank (asked 0 0x03 [] State.reset)) = [0x03, 9, 0x80]
    ∧ answer (run .copyBank (asked 0 0x03 [] (serving bank1032))) = [0x03, 0, 0x80, 2]
    ∧ ((run .copyBank (asked 0 0x03 [] (serving bank1032))).store.bankB.cfg 41).reorder = 8 := by decide +kernel

/-- Table 1-8: a switch that waits for the turn, asked for again, and cancelled. -/
theorem test_switch_bank :
    let s := polling 2 0 (serving (setEntry 0 (some 2) 1 Bank.reset))
    let t := run .switchBank (asked 0 0x04 [2] s)
    answer t = [0x04, 1, 0x80, 1, 1, 2] ∧ t.store.serving = some .A
      ∧ answer (run .switchBank (asked 0 0x04 [2] t)) = [0x04, 1, 0x80, 1, 1, 2]
      ∧ answer (run .cancelSwitch (asked 0 0x05 [] t)) = [0x05, 3, 0x80, 1, 0, 0] := by decide +kernel

/-- R184: once locked, SET_ZONE is answered LOCKED with the 49 bytes of tables. -/
theorem test_lock_zones :
    let t := run .lockZones (asked 0 0x22 [] State.reset)
    let u := run .setZone (asked 0 0x20 ([0, 1, 2] ++ List.replicate 8 7) t)
    t.zones.locked = true ∧ (answer u).take 3 = [0x20, 6, 0x80] ∧ (answer u).length = 52
      ∧ u.zones = t.zones := by decide +kernel

/-- R182, R183: one zone and one rights entry are replaced. -/
theorem test_set_zone_and_rights :
    ((run .setZone (asked 0 0x20 ([1, 10, 20] ++ List.replicate 8 4) State.reset)).zones.zones[1]).grants[7]
      = ⟨false, false, true⟩
    ∧ (run .setSourceRights (asked 0 0x21 [5, 0x12] State.reset)).zones.rights[5]
      = ⟨false, true, ⟨false, false, true⟩⟩ := by decide +kernel

/-- R173: the reads of an idle part. -/
theorem test_state_reads :
    (answer (run .readStatus (asked 0 0x30 [] State.reset))).length = 3 + 21 + 8 * 23 - 1
    ∧ (answer (run .readSlot (asked 0 0x31 [7] State.reset))).take 5 = [0x31, 0, 0x80, 0, 0]
    ∧ (answer (run .readChannel (asked 0 0x32 [7] State.reset))) = [0x32, 0, 0x80] ++ List.replicate 14 0
    ∧ (answer (run .readNodes (asked 0 0x33 [] State.reset))).length = 3 + 237 := by decide +kernel

/-- R174, R175: CLEAR_COUNTERS and READ_FAULTS. -/
theorem test_clear_and_faults :
    let s := (State.reset.modCounters fun c => { c with crc := 9 }).modNode 3 fun r => { r with late := 5 }
    (run .clearCounters (asked 0 0x35 [] s)).mgmt.counters.crc = 0
    ∧ ((run .clearCounters (asked 0 0x35 [] s)).node 3).late = 0
    ∧ (run .readFaults (asked 0 0x36 [] (s.nodeLoss 3))).trunk.capture = none
    ∧ (answer (run .readFaults (asked 0 0x36 [] (s.nodeLoss 3)))).take 5 = [0x36, 0, 0x80, 1, 4] := by
  decide +kernel

/-- R176: the response of an accepted SOFT_RESET is sent, and its last byte resets the part. -/
theorem test_soft_reset :
    let s := run .softReset (asked 0 0x3F [] (State.reset.modCounters fun c => { c with crc := 9 }))
    let t := run .responsePartGrant s
    let u := run .resetPoint t
    s.mgmt.softReset = true ∧ answer (run .readStatus (asked 0 0x30 [] s)) = []
      ∧ u.mgmt.cause = .soft ∧ u.mgmt.counters.crc = 9 ∧ u.trunk.listening = some 4 ∧ u.link.uplink = none := by
  decide +kernel

/-! ## Time and resets -/

/-- R18, R19: the sixtieth second is a minute tick; the seconds counter wraps. -/
theorem test_ticks :
    (run (.oneSecondTick .sessionsFirst) { State.reset with time := ⟨0xFFFFFFFF, 5, 58⟩ }).time = ⟨0, 5, 59⟩
    ∧ (run (.minuteTick .separately) { State.reset with time := ⟨7, 0xFFFFFFFF, 59⟩ }).time = ⟨8, 0, 0⟩ := by
  decide +kernel

/-- R20: deadlines across the wrap. -/
theorem test_deadlines_wrap :
    reached 5 0xFFFFFFFB = true ∧ reached 0xFFFFFFFB 5 = false ∧ reached 7 7 = true
    ∧ reached 0 0x80000000 = false ∧ reached 0 0x80000001 = true := by decide +kernel

/-- R177: pin reset samples the straps and records its cause. -/
theorem test_resets :
    (run (.pinReset 5) fullQueue).ownStation = 61 ∧ (run (.pinReset 5) fullQueue).mgmt.cause = .pin
    ∧ (run (.powerOn 0) fullQueue).mgmt.cause = .power ∧ (run (.powerOn 0) fullQueue).alerts = [] := by
  decide +kernel

/-- A step takes the front command; an empty queue idles (assumption 2). -/
theorem test_step :
    step (State.reset.withCommand .alinkGapAbandon) = exec .alinkGapAbandon State.reset
    ∧ step State.reset = .next State.reset := ⟨rfl, rfl⟩

/-! ## Witnesses

For each statement with hypotheses, a concrete state and operands that meet them, clause by clause and at the
ends of their ranges. -/

theorem witness_StepRunsTheFrontCommand :
    (State.reset.withCommand .alinkGapAbandon).pending = .alinkGapAbandon :: [] ∧ State.reset.pending = [] :=
  ⟨rfl, rfl⟩

theorem witness_ResetPointSetsSoftResetValues :
    let f := formFrame 0xE2 0x39 [0x3F, 0, 0x80]
    (State.reset.send f true).link.uplink = some ⟨f, true⟩ := rfl

theorem witness_TimeBaseCountsSecondsAndComparesDeadlines :
    State.reset.time.phase < 59 ∧ { State.reset with time := ⟨0xFFFFFFFF, 0, 58⟩ }.time.phase < 59
    ∧ 2 ^ 31 - 1 < 2 ^ 31 ∧ 0 < 1 ∧ 1 ≤ 2 ^ 31 := by decide +kernel

/-- A session due at the tick, one due a minute later, a window in its last minute and one before it. -/
def minuteState : State :=
  let b := setCfg 1 { cfg0 with forecast := 5 } (setCfg 2 { cfg0 with forecast := 5 } Bank.reset)
  ((({ serving b with time := ⟨0, 6, 59⟩ }.setSession 0 (some ⟨0, 9, 0, 0, 7, 1⟩)).setSession 1
    (some ⟨10, 19, 0, 0, 8, 1⟩)).modSlot 1 fun v => { v with elapsed := some 4 }).modSlot 2
      fun v => { v with elapsed := some 3 }

theorem witness_MinuteTickCountsAndTakesWhatFallsDue :
    minuteState.time.phase = 59
    ∧ (minuteState.session 0).map (fun r => reached (minuteState.time.minutes + 1) r.deadline) = some true
    ∧ (minuteState.session 1).map (fun r => reached (minuteState.time.minutes + 1) r.deadline) = some false
    ∧ minuteState.session 2 = none ∧ (minuteState.slot 0).elapsed = none
    ∧ (minuteState.slot 1).elapsed = some 4 ∧ (minuteState.acting.cfg 1).forecast.toNat ≤ 4 + 1
    ∧ (minuteState.slot 2).elapsed = some 3 ∧ ¬ (minuteState.acting.cfg 2).forecast.toNat ≤ 3 + 1 := by
  decide +kernel

/-- Slot 208 in EMPTY at a minute. -/
def short208 (minute : Word) : State :=
  { (serving (setCfg 208 cfg208 Bank.reset)).modSlot 208 fun v =>
      { v with stock := .empty, count := some 0, deadline := some 7510 } with time := ⟨0, minute, 0⟩ }

theorem witness_RepeatRaisesAndAdvancesItsDeadline :
    let s := short208 7510
    (s.acting.cfg 208).enabled = true ∧ (s.acting.cfg 208).mode = .repeating ∧ (s.slot 208).stock.short = true
    ∧ (s.slot 208).acked = false ∧ s.covered 208 = false ∧ (s.slot 208).fault = none
    ∧ (s.slot 208).deadline = some 7510 ∧ reached s.minute 7510 = true ∧ (s.acting.cfg 208).interval ≠ 0
    ∧ maskHas s.mgmt.mask .empty = false ∧ s.entry (.slot 208) = none ∧ (s.slot 208).held = none
    ∧ s.alerts.length < 64 := by decide +kernel

/-- Slot 208 in EMPTY in the last second of minute 7,509, its deadline the next minute: it repeats at the tick, and
before that minute it does not; slot 1 of `minuteState` lies in the range of the session that expires. -/
theorem witness_MinuteTickCountsAndTakesWhatFallsDue_repeats :
    let s := { short208 7509 with time := ⟨0, 7509, 59⟩ }
    let due := fun n : Slot => (s.acting.cfg n).enabled && (s.acting.cfg n).mode = .repeating
      && (s.slot n).stock.short && !(s.slot n).acked && !s.covered n && (s.slot n).fault.isNone
      && (s.slot n).deadline.any (reached (s.time.minutes + 1))
    s.time.phase = 59 ∧ (∀ id : SessionId, s.session id = none) ∧ due 208 = true ∧ due 207 = false
    ∧ (s.slot 208).deadline.any (reached s.time.minutes) = false ∧ (s.acting.cfg 208).interval ≠ 0
    ∧ maskHas s.mgmt.mask .empty = false ∧ s.entry (.slot 208) = none ∧ (s.slot 208).held = none
    ∧ s.alerts.length + allSlots.countP due ≤ 64 ∧ (∀ n, (s.slot n).elapsed = none)
    ∧ ((minuteState.session 0).any (·.covers 1) = true ∧ (minuteState.acting.cfg 1).interval ≠ 0) := by
  decide +kernel

theorem witness_RepeatRaisesAndAdvancesItsDeadline_skipped :
    (((short208 7601).modSlot 208 fun v => { v with acked := true }).slot 208).acked = true
    ∧ ((short208 7601).setSession 0 (some ⟨208, 208, 0, 0, 9000, 0⟩)).covered 208 = true
    ∧ (((short208 7601).modSlot 208 fun v => { v with fault := some .badSamples }).slot 208).fault.isSome = true := by
  decide +kernel

theorem witness_SessionExpiryClosesAndReportsLapsed :
    let s := minuteState
    let t := { s with time := ⟨0, 7, 0⟩ }
    (t.session 0 = some ⟨0, 9, 0, 0, 7, 1⟩ ∧ reached t.minute 7 = true ∧ maskHas t.mgmt.mask .lapsed = false
      ∧ t.entry (.session 0) = none ∧ t.alerts.length < 64)
    ∧ (t.session 1 = some ⟨10, 19, 0, 0, 8, 1⟩ ∧ reached t.minute 8 = false) ∧ t.session 2 = none := by
  decide +kernel

/-- The session of section 7.5 at its deadline and at its close: slot 120 is short, slot 121 has recovered, and
slot 122 raises nothing. -/
theorem witness_SessionExpiryClosesAndReportsLapsed_alerts :
    let s := { session75 with time := ⟨0, 8020, 0⟩ }
    let r : Session := ⟨120, 123, 2, 0, 8020, 32⟩
    let raised := fun n : Slot => if r.covers n then (s.slot n).closeAlert (s.acting.cfg n) else none
    s.session 1 = some r ∧ reached s.minute r.deadline = true
    ∧ raised 120 = some .low ∧ raised 121 = some .recovered ∧ raised 122 = none
    ∧ maskHas s.mgmt.mask .low = false ∧ maskHas s.mgmt.mask .recovered = false
    ∧ (∀ n ∈ [(120 : Slot), 121, 122], s.entry (.slot n) = none ∧ (s.slot n).held = none)
    ∧ s.alerts.length + 1 + allSlots.countP (fun m => (raised m).isSome) ≤ 64 := by decide +kernel

theorem witness_ForecastWindowCloseTakesTheRate :
    let s := minuteState.modSlot 1 fun v => { v with elapsed := some 5 }
    ((s.slot 1).elapsed = some 5 ∧ (s.acting.cfg 1).forecast.toNat ≤ 5)
    ∧ ((minuteState.slot 1).elapsed = some 4 ∧ 4 < (minuteState.acting.cfg 1).forecast.toNat) := by decide +kernel

theorem witness_WireFramesAreAssembledOnBothLines :
    (∀ k ∈ [0, 240], let f := formFrame 0xE0 0x38 (List.replicate k 7)
      f.payload.length ≤ 240 ∧ f.addr ≠ 0xD5 ∧ f.crcOk = true)
    ∧ State.reset.link.rx.state = .hunt ∧ State.reset.trunk.rx.state = .hunt := by
  refine ⟨fun k hk => ⟨?_, by simp, formFrame_crcOk _ _ _⟩, rfl, rfl⟩
  rw [formFrame_payload, List.length_replicate]
  revert k
  decide

/-- A node command to node 9. -/
def command9 : Frame := formFrame (addrByte 9 false) (kindByte 12 kindNodeCmd) [0x10, 1]

theorem witness_DispatchPlacesEachFrameByTable102 :
    let f := request 3 0x30 []
    let c := command9
    let m := formFrame (addrByte 57 false) (kindByte 0 kindMgmtReq) []
    let own := fun g : Frame => g.station = 56 + State.reset.strap.toNat ∧ g.towardAisle = false
      ∧ g.zeroBit = false ∧ g.kindCode = 8
    let cmd := fun g : Frame => g.station ≤ 32 ∧ g.towardAisle = false ∧ g.zeroBit = false ∧ g.kindCode = 3
    (∀ g ∈ [f, c, m], g.payload.length ≤ 240 ∧ g.addr ≠ 0xD5 ∧ g.crcOk = true)
    ∧ State.reset.link.rx = Assembler.reset
    ∧ (own f ∧ [f, f, f].length < 4) ∧ (own f ∧ 4 ≤ [f, f, f, f].length)
    ∧ (cmd c ∧ [c, c, c].length < 4 ∧ (polling 4 0 State.reset).trunk.txn.isSome = true)
    ∧ (cmd c ∧ 4 ≤ [c, c, c, c].length) ∧ (¬ own m ∧ ¬ cmd m) := by decide +kernel

/-- An assembler in HUNT with this preamble count. -/
def hunting (k : Nat) : State :=
  { State.reset with link := { AisleLink.reset with rx := { Assembler.reset with preamble := k } } }

theorem witness_HuntCountsThePreambleAndStartsAFrame :
    ∀ k ∈ [0, 3, 4], (hunting k).link.rx.state = .hunt ∧ (hunting k).link.rx.preamble ≤ 4 := by decide +kernel

/-- A state whose aisle link assembles a frame. -/
def assembling (a : Assembler) : State := { State.reset with link := { AisleLink.reset with rx := a } }

theorem witness_AbandonedFramesAreCountedAndDiscarded :
    let h := assembling { Assembler.reset with state := .header, addr := 0xE0, kind := some 0x38 }
    let c := assembling { Assembler.reset with
      state := .check, addr := 0xE0, kind := some 0x38, crcHigh := some 0 }
    (h.link.rx.state ≠ .hunt ∧ h.link.rx.state = .header ∧ h.link.rx.kind.isSome = true ∧ 240 < (241 : Byte).toNat)
    ∧ (c.link.rx.state ≠ .hunt ∧ c.link.rx.state = .check ∧ c.link.rx.kind = some 0x38
      ∧ c.link.rx.crcHigh = some 0
      ∧ beNat [0, 0] ≠ (crc16 (crcCovered c.link.rx.addr 0x38 c.link.rx.payload)).toNat) := by decide +kernel

theorem witness_UplinkGrantsFollowTheirOrder :
    let s := run .readCounters (asked 3 0x34 [] State.reset)
    let f := formFrame 0x26 0xC5 [0x10]
    let r := { State.reset with link := { AisleLink.reset with returns := [f] } }
    (s.link.uplink = none ∧ s.mgmt.response
      = some ⟨3, (0x34 :: 0 :: 0x80 :: List.replicate 20 0) :: []⟩)
    ∧ (State.reset.link.uplink = none ∧ State.reset.mgmt.response = none)
    ∧ (r.link.uplink = none ∧ r.mgmt.response = none ∧ r.link.returns = f :: [])
    ∧ (r.send f false).link.uplink = some ⟨f, false⟩
    ∧ State.reset.link.returns = [] ∧ State.reset.alerts = [] ∧ (r.send f false).link.uplink.isSome = true := by
  decide +kernel

/-- Five entries wait, and nothing else does. -/
def fiveQueued : State :=
  (serving Bank.reset).setAlerts ((List.range 5).map fun i => entry (Fin.ofNat 256 i) .low false)

theorem witness_AlertGrantSendsTheFirstFour :
    fiveQueued.link.uplink = none ∧ fiveQueued.mgmt.response = none ∧ fiveQueued.link.returns = []
    ∧ fiveQueued.alerts ≠ [] ∧ ∀ n, (fiveQueued.slot n).held = none := by decide +kernel

/-- Five slots held back behind a full queue: the four lowest are offered again, EMPTY in the urgent tier and the
others behind the normal one (R131, R134). -/
def heldBehindFull : State :=
  [(9, AlertKind.low), (3, .inspect), (200, .low), (5, .empty), (250, .fault)].foldl
    (fun s p => s.modSlot p.1 fun v => { v with held := some p.2, inspection := some .motion }) fullQueue

theorem witness_AlertGrantSendsTheFirstFour_held :
    heldBehindFull.link.uplink = none ∧ heldBehindFull.mgmt.response = none ∧ heldBehindFull.link.returns = []
    ∧ heldBehindFull.alerts ≠ [] ∧ QueueOk heldBehindFull
    ∧ (allSlots.filter fun n => (heldBehindFull.slot n).held.isSome).take 4 = [3, 5, 9, 200]
    ∧ (let t := run .alertGrant heldBehindFull
       t.alerts.length = 64 ∧ (t.alerts.map (·.alert.key)).head? = some (.slot 5)
       ∧ (t.alerts.map (·.alert.key)).drop 61 = [.slot 3, .slot 9, .slot 200]
       ∧ (t.slot 200).held = none ∧ (t.slot 250).held = some .fault) := by
  unfold QueueOk
  decide +kernel

/-- Table 12-6: FORECAST for slot 200 with count 300 and projection 65,535, and LAPSED for session 7, whose units
added stand in the place of the article code. -/
theorem test_forecast_and_lapsed_entry_bytes :
    (⟨⟨.slot 200, .forecast, .noReason, some 300, none, some 65535, some 0x01020304, 5⟩, false⟩ : AlertEntry).toBytes
      = [3, 200, 7, 0, 1, 44, 255, 255, 1, 2, 3, 4, 0, 0, 0, 5]
    ∧ (⟨⟨.session 7, .lapsed, .noReason, none, some 32, none, none, 256⟩, false⟩ : AlertEntry).toBytes
      = [1, 7, 0, 0, 0, 0, 0, 0, 0, 0, 0, 32, 0, 0, 1, 0] := by decide +kernel

/-- A transaction of this kind, its frame still being sent or its window open. -/
def inFlight (k : TxnKind) (f : Frame) (sending : Bool) (s : State) : State :=
  { s with trunk := { s.trunk with txn := some ⟨k, f, sending, 4⟩ } }

theorem witness_TrunkFrameSentOpensTheWindow :
    let s := inFlight (.forward (some 8) none) command9 true State.reset
    let b := inFlight (.forward none none) command9 true State.reset
    s.trunk.txn = some ⟨.forward (some 8) none, command9, true, 4⟩
    ∧ (b.trunk.txn = some ⟨.forward none none, command9, true, 4⟩ ∧ b.trunk.forwards = []
      ∧ b.trunk.listening = none ∧ b.store.serving = none) := by decide +kernel

theorem witness_ReplyWindowOutlastsStaleAndAbandonedFrames :
    let s := polling 8 9 (serving Bank.reset)
    let f := sample 8 3 0
    let w := { inFlight (.forward (some 8) none) command9 false State.reset with
      trunk := { (inFlight (.forward (some 8) none) command9 false State.reset).trunk with
        rx := { Assembler.reset with state := .body } } }
    (s.trunk.rx = Assembler.reset ∧ s.trunk.txn = some ⟨.poll 8 9 false, pollFrame 8 9, false, 4⟩
      ∧ f.crcOk = true ∧ f.payload.length = 32 ∧ f.station = (8 : Node).val + 1 ∧ f.towardAisle = true
      ∧ f.kindCode = 2 ∧ f.addr ≠ 0xD5 ∧ f.tag ≠ 9)
    ∧ (w.trunk.rx.state ≠ .hunt ∧ w.trunk.txn = some ⟨.forward (some 8) none, command9, false, 4⟩)
    ∧ (let h := { Assembler.reset with state := .header, kind := some 0x32 }
       let t := { State.reset with trunk := { Trunk.reset with rx := h } }
       t.trunk.txn = none ∧ t.trunk.rx.state = .header ∧ t.trunk.rx.kind.isSome = true
       ∧ 240 < (241 : Byte).toNat) := by decide +kernel

/-- In the window of a forward to node 9, a frame of node 10 is no reply; with no window open, or while a frame is
being sent, the first and last node addresses are counted as late with a good CRC only. -/
theorem witness_ReplyWindowOutlastsStaleAndAbandonedFrames_frames :
    let w := inFlight (.forward (some 8) none) command9 false State.reset
    let sending := inFlight (.forward (some 8) none) command9 true State.reset
    let other := sample 9 3 0
    let noNode := formFrame (addrByte 33 true) 0x32 []
    (w.trunk.rx = Assembler.reset ∧ w.trunk.txn = some ⟨.forward (some 8) none, command9, false, 4⟩
      ∧ other.addr ≠ 0xD5 ∧ other.payload.length ≤ 240 ∧ other.station ≠ (8 : Node).val + 1)
    ∧ (State.reset.trunk.txn = none ∧ sending.trunk.txn = some ⟨.forward (some 8) none, command9, true, 4⟩
      ∧ sending.trunk.rx = Assembler.reset)
    ∧ (∀ node ∈ [(0 : Node), 31], let f := sample node 3 0
        f.crcOk = true ∧ f.station = node.val + 1 ∧ f.towardAisle = true ∧ f.addr ≠ 0xD5
        ∧ ({ f with crc := f.crc + 1 }).crcOk = false)
    ∧ (noNode.station = 33 ∧ noNode.crcOk = true ∧ noNode.addr ≠ 0xD5 ∧ command9.towardAisle = false) := by
  decide +kernel

/-- A poll at this roster position of two, with this interleave count. -/
def rosterPoll (ptr count : Nat) (motion : Bool) : State :=
  let s := polling 2 5 (serving (setEntry 0 (some 2) 2 (setEntry 1 (some 3) 2 Bank.reset)))
  { s with trunk := { s.trunk with
      txn := some ⟨.poll 2 5 motion, pollFrame 2 5, false, 4⟩, rosterPtr := ptr, interleave := count } }

/-- R147, R148: a roster poll, answered or missed, counts for the interleave up to 15 and moves the pointer to the
next position, or to 0 at the turn; a motion poll moves neither. -/
theorem test_end_of_poll_moves_the_roster_pointer :
    ∀ c ∈ [Instr.replyWindowClose, .trunkFrameReceived (rxBytes (sample 2 5 9).wire)],
      (let t := run c (rosterPoll 0 14 false); t.trunk.rosterPtr = 1 ∧ t.trunk.interleave = 15)
      ∧ (let t := run c (rosterPoll 1 15 false); t.trunk.rosterPtr = 0 ∧ t.trunk.interleave = 15)
      ∧ (let t := run c (rosterPoll 1 3 true); t.trunk.rosterPtr = 1 ∧ t.trunk.interleave = 3) := by
  decide +kernel

theorem witness_AcceptedSampleUpdatesNodeAndChannels :
    let f := sample 2 5 9
    let s := polling 2 f.tag (serving (setMap 16 (live 1) Bank.reset))
    s.trunk.rx = Assembler.reset ∧ s.trunk.txn = some ⟨.poll 2 f.tag false, pollFrame 2 f.tag, false, 4⟩
    ∧ f.crcOk = true ∧ f.payload.length = 32 ∧ f.station = (2 : Node).val + 1 ∧ f.towardAisle = true
    ∧ f.kindCode = 2 ∧ f.addr ≠ 0xD5
    ∧ (s.acting.map 16).route.isSome = true ∧ (s.acting.map 16).source = .live ∧ (s.chan 16).rezero = false := by
  decide +kernel

/-- Slot 1 with the settings `c` and a LIVE member on each of two nodes; the first is being polled. -/
def sampled (c : SlotCfg) (v : SlotLive) : State :=
  (polling 0 5 (serving (setMap 0 (live 1) (setMap 8 (live 1) (setCfg 1 c Bank.reset))))).modSlot 1 fun _ => v

/-- Slot 1 after a SAMPLE of nine counts on every channel of its first member's node. -/
def afterSample (c : SlotCfg) (v : SlotLive) : State :=
  run (.trunkFrameReceived (rxBytes (sample 0 5 9).wire)) (sampled c v)

/-- Reply by reply: the second member's position set before, it completes the mask, and a window of one closes
settled; a window of two stays open, and closes unsettled after a first sample far away; without that position the
mask stays incomplete; a fault stays while the other node is UNSEEN. -/
theorem witness_AcceptedSampleUpdatesNodeAndChannels_slots :
    let half := { SlotLive.reset with fresh := 2 }
    let b := (sampled cfg0 half).acting
    let two := { cfg0 with width := 2, threshold := 2 }
    (b.cfg 1).enabled = true ∧ (b.members 1).length = 2
    ∧ (∃ p ∈ b.liveMembers 1, nodeOf p.1 = 0) ∧ (b.cfg 2).enabled = false
    ∧ (sampled cfg0 half).trunk.forwards = [] ∧ (sampled cfg0 half).store.requested = none
    ∧ (∀ p ∈ b.liveMembers 1, ((afterSample cfg0 half).node (nodeOf p.1)).state ≠ .silent
      ∧ ((afterSample cfg0 half).chan p.1).badStreak ≠ 3)
    ∧ (Window.take none 1 9).verdict 1 1 = .settled ∧ ((afterSample cfg0 half).slot 1).count = some 9
    ∧ (Window.take none 1 9).verdict 2 2 = .stays ∧ ((afterSample two half).slot 1).window = some ⟨9, 9, 1, 1⟩
    ∧ (Window.take (some ⟨99, 99, 1, 1⟩) 1 9).verdict 2 2 = .unsettled
    ∧ ((afterSample two { half with window := some ⟨99, 99, 1, 1⟩ }).slot 1).motion = some 0
    ∧ ((afterSample cfg0 SlotLive.reset).slot 1).fresh = 1
    ∧ ((afterSample cfg0 { SlotLive.reset with fault := some .badSamples }).slot 1).fault = some .badSamples := by
  decide +kernel

/-- The fault test of an accepted reply: it clears when the slot's other node answers too, and starts when that
node is SILENT. -/
theorem witness_AcceptedSampleUpdatesNodeAndChannels_faults :
    let s := sampled cfg0 { SlotLive.reset with fault := some .badSamples }
    let alive := run (.trunkFrameReceived (rxBytes (sample 0 5 9).wire)) (s.modNode 1 fun r => { r with state := .alive })
    let silent := run (.trunkFrameReceived (rxBytes (sample 0 5 9).wire))
      ((sampled cfg0 SlotLive.reset).modNode 1 fun r => { r with state := .silent })
    (∀ p ∈ s.acting.liveMembers 1, (alive.node (nodeOf p.1)).state = .alive ∧ (alive.chan p.1).badStreak = 0)
    ∧ (alive.slot 1).fault = none
    ∧ (∃ p ∈ s.acting.liveMembers 1, (silent.node (nodeOf p.1)).state = .silent)
    ∧ (silent.slot 1).fault = some .nodeSilent := by decide +kernel

theorem witness_MissedPollCountsAndSilencesTheNode :
    let s := polling 4 0 (serving Bank.reset)
    let t := { s with trunk := { s.trunk with rx := { Assembler.reset with state := .header, kind := some 0x42 } } }
    s.trunk.txn = some ⟨.poll 4 0 false, pollFrame 4 0, false, 4⟩ ∧ (s.node 4).streak ≤ 3
    ∧ ((s.modNode 4 fun r => { r with state := .alive, streak := 2 }).node 4).streak = 2
    ∧ ((s.modNode 4 fun r => { r with state := .silent, streak := 3 }).node 4).streak ≤ 3
    ∧ (t.trunk.rx.state = .header ∧ t.trunk.rx.kind.isSome = true ∧ t.trunk.txn = s.trunk.txn
      ∧ 240 < (241 : Byte).toNat)
    ∧ (s.trunk.rx = Assembler.reset ∧ (sample 5 0 9).addr ≠ 0xD5 ∧ (sample 5 0 9).payload.length ≤ 240
      ∧ (sample 5 0 9).station ≠ (4 : Node).val + 1) := by decide +kernel

/-- The positions in the roster of two at which a poll's end is stated. -/
theorem witness_MissedPollCountsAndSilencesTheNode_roster :
    (∀ motion, (rosterPoll 0 14 motion).trunk.rosterPtr + 1 < (rosterPoll 0 14 motion).acting.length)
    ∧ (∀ motion, (rosterPoll 1 14 motion).trunk.rosterPtr + 1 = (rosterPoll 1 14 motion).acting.length)
    ∧ ∀ motion, (rosterPoll 1 14 motion).trunk.txn = some ⟨.poll 2 5 motion, pollFrame 2 5, false, 4⟩ := by
  decide +kernel

theorem witness_MissedPollCountsAndSilencesTheNode_slots :
    let s := (sampled cfg0 SlotLive.reset).modNode 0 fun r => { r with state := .alive, streak := 2 }
    let hit := fun n : Slot => (s.acting.cfg n).enabled && (s.slot n).fault.isNone
      && (s.acting.liveMembers n).any fun p => nodeOf p.1 = 0
    s.trunk.forwards = [] ∧ s.store.requested = none ∧ 2 ≤ (s.node 0).streak ∧ (s.node 0).state ≠ .silent
    ∧ hit 1 = true ∧ hit 2 = false ∧ maskHas s.mgmt.mask .fault = false ∧ s.entry (.slot 1) = none
    ∧ (s.slot 1).held = none ∧ s.alerts.length + allSlots.countP hit ≤ 64
    ∧ ¬ 2 ≤ ((sampled cfg0 SlotLive.reset).node 0).streak := by decide +kernel

theorem witness_ForwardEndsWithReplyOrFailure :
    let s := inFlight (.forward (some 8) none) command9 false State.reset
    let r := formFrame (addrByte 9 true) (kindByte 12 kindNodeResp) [0x10, 0]
    let full := { s with link := { s.link with returns := [r, r, r, r] } }
    s.trunk.rx = Assembler.reset ∧ s.trunk.txn = some ⟨.forward (some 8) none, command9, false, 4⟩
    ∧ r.crcOk = true ∧ r.payload.length ≤ 240 ∧ r.addr ≠ 0xD5 ∧ r.station = (8 : Node).val + 1
    ∧ r.towardAisle = true ∧ s.link.returns.length < 4 ∧ ¬ full.link.returns.length < 4
    ∧ s.trunk.forwards = [] ∧ s.store.requested = none := by decide +kernel

/-- A part whose one roster entry is node 3. -/
def oneEntry : State := serving (setEntry 0 (some 2) 1 Bank.reset)

theorem witness_ListenPeriodEndStartsTheFirstPoll :
    let s := { oneEntry with trunk := { Trunk.reset with listening := some 4 } }
    s.trunk.listening = some 4 ∧ s.trunk.txn = none ∧ s.trunk.forwards = [] ∧ s.trunk.motionList = []
    ∧ s.trunk.rosterEmpty = false ∧ s.store.serving.isSome = true ∧ 0 < s.acting.length
    ∧ s.acting.entry s.trunk.rosterPtr = some 2 := by decide +kernel

theorem witness_ArbiterLeavesNoWorkAndAlternates :
    let s := { oneEntry with trunk := { Trunk.reset with forwards := [command9] } }
    let a := { s with trunk := { s.trunk with lastKind := .forward } }
    let m := { serving { oneEntry.acting with header := ⟨1, 2, 4⟩ } with
      trunk := { a.trunk with motionList := [6], interleave := 2 } }
    (s.trunk.txn = none ∧ s.trunk.listening = none ∧ MotionListOk s.trunk ∧ s.trunk.forwards = command9 :: []
      ∧ s.store.serving.isSome = true ∧ s.trunk.lastKind = .poll)
    ∧ (a.trunk.lastKind = .forward ∧ a.trunk.motionList = [] ∧ 0 < a.acting.length ∧ a.trunk.rosterEmpty = false
      ∧ a.acting.entry a.trunk.rosterPtr = some 2)
    ∧ (m.trunk.lastKind = .forward ∧ m.acting.header.interleave ≠ 0 ∧ m.trunk.motionList ≠ []
      ∧ m.acting.header.interleave.toNat ≤ m.trunk.interleave ∧ m.trunk.motionList[m.trunk.motionPtr]? = some 6
      ∧ m.trunk.forwards = command9 :: [] ∧ m.store.serving.isSome = true) := by
  unfold MotionListOk
  decide +kernel

/-- R147, R150: the motion poll of the last position in use sets the interleave count and the pointer to 0, that of
the one before moves the pointer on; the roster pointer stands. -/
theorem test_motion_poll_moves_the_motion_pointer :
    ∀ ptr ∈ [0, 1],
      let s := { serving { oneEntry.acting with header := ⟨2, 2, 4⟩ } with
        trunk := { Trunk.reset with motionList := [6, 7], motionPtr := ptr, interleave := 2, rosterPtr := 1 } }
      let t := (arbitrate s).trunk
      t.interleave = 0 ∧ t.motionPtr = 1 - ptr ∧ t.rosterPtr = 1 ∧ t.pollTag = s.trunk.pollTag + 1
        ∧ t.nodes[6 + ptr]?.map (·.polls) = some 1 := by decide +kernel

theorem witness_ZeroFlagsItsChannelsAndResetsItsSlotsAfterOk :
    let b := setMap 68 (live 75) (setCfg 75 cfg0 Bank.reset)
    let f := formFrame (addrByte 9 false) (kindByte 1 kindNodeCmd) [0x21, 0x10]
    f.node = some 8 ∧ nodeOf 68 = 8 ∧ 2 ≤ f.payload.length ∧ byteAt f.payload 0 = 0x21
    ∧ (byteAt f.payload 1).getLsbD (68 % 8) = true ∧ (b.map 68).route = some 75
    ∧ (68 : Chan) ∈ (rezeroSet b 8 0x10).chans ∧ (75 : Slot) ∈ (rezeroSet b 8 0x10).slots := by decide +kernel

/-- A ZERO to node 9 in its reply window; OK at two payload bytes, another status, and one byte too few. -/
theorem witness_ZeroFlagsItsChannelsAndResetsItsSlotsAfterOk_ends :
    let z := rezeroSet (setMap 68 (live 75) (setCfg 75 cfg0 Bank.reset)) 8 0x10
    let s := inFlight (.forward (some 8) (some z)) command9 false State.reset
    let reply := fun p => formFrame (addrByte 9 true) (kindByte 12 kindNodeResp) p
    s.trunk.rx = Assembler.reset ∧ s.trunk.txn = some ⟨.forward (some 8) (some z), command9, false, 4⟩
    ∧ s.trunk.forwards = [] ∧ s.store.requested = none
    ∧ (∀ p ∈ [[(0x21 : Byte), 0], [0x21, 1], [0x21]],
      (reply p).crcOk = true ∧ (reply p).payload.length ≤ 240 ∧ (reply p).addr ≠ 0xD5
      ∧ (reply p).station = (8 : Node).val + 1 ∧ (reply p).towardAisle = true)
    ∧ (reply [0x21, 0]).kindCode = 4 := by decide +kernel

theorem witness_MotionListTakesNodesOnceAndKeepsItsPointer :
    let t := { Trunk.reset with motionList := [0, 1, 2, 3, 4, 5, 6, 7], motionPtr := 7 }
    let u := { Trunk.reset with motionList := [0, 1, 2, 3, 4, 5, 6], motionPtr := 3 }
    (5 ∈ u.motionList) ∧ (9 ∉ u.motionList ∧ u.motionList.length < 8) ∧ (9 ∉ t.motionList ∧ 8 ≤ t.motionList.length)
    ∧ (MotionListOk t ∧ (0 : Node) ∈ t.motionList ∧ t.motionNode = some 7 ∧ (7 : Node) ≠ 0) := by
  unfold MotionListOk
  decide +kernel

/-- Slot 1 has left motion; slot 2, in motion, needs its first node and not its second. -/
def leaving : State :=
  ({ serving (setMap 0 (live 1) (setMap 8 (live 1) (setMap 1 (live 2) (setCfg 2 cfg0 Bank.reset)))) with
    trunk := { Trunk.reset with motionList := [1, 0], motionPtr := 1 } }).modSlot 2 fun v => { v with motion := some 3 }

theorem witness_MotionListTakesNodesOnceAndKeepsItsPointer_leave :
    MotionListOk leaving.trunk ∧ leaving.trunk.motionNode = some 0
    ∧ ((leaving.slot 2).motion.isSome = true ∧ (leaving.acting.cfg 2).enabled = true
      ∧ ∃ p ∈ leaving.acting.liveMembers 2, nodeOf p.1 = 0)
    ∧ (∃ p ∈ leaving.acting.members 1, nodeOf p.1 = 1)
    ∧ (leaveMotion leaving.acting 1 leaving).trunk.motionList = [0] := by
  unfold MotionListOk
  decide +kernel

/-- Slot 1 with one LIVE member on node 1. -/
def oneMember : State := serving (setMap 0 (live 1) (setCfg 1 cfg0 Bank.reset))

theorem witness_FaultTestStartsAndClearsFaults :
    let b := oneMember.acting
    let silent := oneMember.modNode 0 fun r => { r with state := .silent }
    let clear := (oneMember.modNode 0 fun r => { r with state := .alive }).modSlot 1
      fun v => { v with fault := some .badSamples }
    ((silent.slot 1).fault = none ∧ (∃ p ∈ b.liveMembers 1, (silent.node (nodeOf p.1)).state = .silent)
      ∧ maskHas silent.mgmt.mask .fault = false ∧ silent.entry (.slot 1) = none ∧ (silent.slot 1).held = none
      ∧ silent.alerts.length < 64)
    ∧ ((oneMember.slot 1).fault = none ∧ (∀ p ∈ b.liveMembers 1,
        (oneMember.node (nodeOf p.1)).state ≠ .silent ∧ (oneMember.chan p.1).badStreak ≠ 3))
    ∧ ((clear.slot 1).fault.isSome = true ∧ (∀ p ∈ b.liveMembers 1,
        (clear.node (nodeOf p.1)).state = .alive ∧ (clear.chan p.1).badStreak = 0))
    ∧ ((oneMember.modSlot 1 fun v => { v with fault := some .badSamples }).slot 1).fault.isSome = true
    ∧ (∃ p ∈ b.liveMembers 1, (oneMember.node (nodeOf p.1)).state ≠ .alive) := by decide +kernel

theorem witness_WindowHoldsAgreeingSamplesAndSettlesInTheBand : 0 < (Window.mk (-4) (-7) 2 2).agree := by
  decide

theorem witness_WindowClosesWhenItsOutcomeIsCertain :
    ∀ p ∈ [((Window.mk 0 0 1 1), 1, 1), (⟨0, 0, 1, 62⟩, 62, 1), (⟨0, 0, 7, 8⟩, 8, 6), (⟨0, 0, 1, 4⟩, 8, 6)],
      1 ≤ p.2.2 ∧ p.2.2 ≤ p.2.1 ∧ 1 ≤ p.1.agree ∧ p.1.agree ≤ p.1.count ∧ p.1.count ≤ p.2.1 := by decide

theorem witness_UnsettledCloseStartsOrKeepsMotion :
    let b := setCfg 163 cfg163 Bank.reset
    let s := State.reset.modSlot 163 fun v => { v with motion := some (0 - 300) }
    ((b.cfg 163).motionLimit.toNat ≤ (s.now - (s.slot 163).motion.getD s.now).toNat
      ∧ (s.slot 163).motionReported = false)
    ∧ maskHas s.mgmt.mask .inspect = false ∧ s.entry (.slot 163) = none ∧ (s.slot 163).held = none
    ∧ s.alerts.length < 64
    ∧ ¬ ((b.cfg 163).motionLimit.toNat
      ≤ (State.reset.now - (State.reset.slot 163).motion.getD State.reset.now).toNat) := by decide +kernel

/-- Offers to a list of seven nodes, and a settled close in motion and out of it, accepted and not. -/
theorem witness_UnsettledCloseStartsOrKeepsMotion_nodes :
    let t := unsettledClose leaving.acting 1 { leaving with trunk := { leaving.trunk with
      motionList := [9, 2, 3, 4, 5, 6, 7], motionPtr := 0 } }
    t.trunk.motionList = [9, 2, 3, 4, 5, 6, 7, 0] ∧ t.mgmt.counters.motionOverflow = 1
    ∧ (leaving.slot 1).motion = none ∧ (leaving.slot 2).motion.isSome = true ∧ MotionListOk leaving.trunk
    ∧ accepted cfg0 7 = true ∧ accepted cfg163 76500 = false := by
  unfold MotionListOk
  decide +kernel

theorem witness_OnlyCountsInToleranceAreAccepted :
    let b := setCfg 163 { cfg163 with ambiguity := 1 } Bank.reset
    let s := State.reset
    cfgU10.unitWeight ≠ 0 ∧ cfgU10.tolerance.toNat ≤ 127 ∧ accepted cfgU10 655352 = true
    ∧ accepted (b.cfg 163) 76500 = false
    ∧ (s.slot 163).streak + 1 = (b.cfg 163).ambiguity.toNat ∧ maskHas s.mgmt.mask .inspect = false
    ∧ s.entry (.slot 163) = none ∧ (s.slot 163).held = none ∧ s.alerts.length < 64
    ∧ (s.slot 163).streak + 1 ≠ ((setCfg 163 { cfg163 with ambiguity := 2 } Bank.reset).cfg 163).ambiguity.toNat := by
  decide +kernel

/-- R57, with a unit of 10 g: an exact half goes up, and the count is clamped at both ends; a weight at the tolerance
counts, one gram beyond it does not. -/
theorem test_count_rounds_half_up_and_clamps :
    let cfg := { cfg0 with unitWeight := 10, tolerance := 127 }
    [475, -5, -6, 655345, 655354, 655355].map (countOf cfg) = [48, 0, 0, 65535, 65535, 65535]
    ∧ (∀ k ∈ [0, 65535], (accepted cfg (10 * k + 4) = true ∧ countOf cfg (10 * k + 4) = k)
      ∧ accepted cfg (10 * k + 5) = false) := by decide +kernel

theorem witness_AcceptedCountClassifiesTheChange :
    let b := before7.acting
    accepted (b.cfg 163) 74650 = true ∧ countOf (b.cfg 163) 74650 = 45
    ∧ ((before7.slot 163).stock ≠ .unknown ∧ (before7.slot 163).count = some 42)
    ∧ (before7.covered 163 = false ∧ (b.cfg 163).putLimit.toNat < 45 - 42 ∧ (b.cfg 163).reorder.toNat < 42
      ∧ maskHas before7.mgmt.mask .inspect = false ∧ before7.entry (.slot 163) = none
      ∧ (before7.slot 163).held = none ∧ before7.alerts.length < 64)
    ∧ (State.reset.slot 163).stock = .unknown := by decide +kernel

theorem witness_StockEvaluationFollowsTables53And57 :
    (before7.slot 163).count = some 42
    ∧ classify 10 20 42 .stocked = (before7.slot 163).stock
    ∧ classify 50 60 42 .stocked ≠ (before7.slot 163).stock
    ∧ (before7.setSession 0 (some ⟨160, 170, 2, 0, 99, 0⟩)).covered 163 = true
    ∧ (before7.covered 163 = false ∧ maskHas before7.mgmt.mask .low = false
      ∧ before7.entry (.slot 163) = none ∧ (before7.slot 163).held = none ∧ before7.alerts.length < 64)
    ∧ (1 ≤ 10 ∧ 10 ≤ 10 ∧ 10 ≤ 20 ∧ 20 < 21 ∧ 10 < 11 ∧ 20 ≤ 20) := by decide +kernel

theorem witness_ProjectionDecidesTheForecastAlert :
    let s := (serving (setCfg 57 { cfg0 with forecast := 30, lead := 117 } Bank.reset)).modSlot 57 fun v =>
      { v with stock := .stocked, count := some 43, rate := some 11, elapsed := some 0 }
    43 * (s.acting.cfg 57).forecast.toNat / 11 ≤ (s.acting.cfg 57).lead.toNat ∧ (s.slot 57).armed = true
    ∧ (s.slot 57).stock = .stocked ∧ (s.slot 57).rate.any (0 < ·) = true ∧ s.covered 57 = false
    ∧ (s.slot 57).fault = none ∧ maskHas s.mgmt.mask .forecast = false ∧ s.entry (.slot 57) = none
    ∧ (s.slot 57).held = none ∧ s.alerts.length < 64 := by decide +kernel

theorem witness_AckSlotAcknowledgesEachGrantedSlot :
    (∀ args ∈ [[], [1], List.replicate 8 1, List.replicate 9 (1 : Byte)],
      Taking (asked 0 0x12 args fiveQueued) (request 0 0x12 args) 0 0x12 args)
    ∧ fiveQueued.zones.holds 0 .ack (slotOfByte 1) = true := by
  unfold Taking
  decide +kernel

theorem witness_OpenRestockChecksThenOpens :
    let s := session75.setSession 0 (some ⟨10, 19, 1, 0, 9000, 0⟩)
    (∀ args ∈ [[(1 : Byte), 2, 0], [2, 1, 9], [118, 121, 20], [1, 2, 20], [7, 7, 1]],
      Taking (asked 2 0x10 args s) (request 2 0x10 args) 2 0x10 args)
    ∧ s.zones.holds 2 .session 1 = true
    ∧ ({ s with zones := { s.zones with rights := Vector.replicate 8 ⟨false, false, ⟨false, false, false⟩⟩ } }
      : State).zones.holds 2 .session 1 = false
    ∧ (∃ r, s.session 1 = some r ∧ r.first ≤ 121 ∧ 118 ≤ r.last)
    ∧ (s.session 2 = none ∧ ∀ j, s.session j = none → 2 ≤ j)
    ∧ (∀ id, ({ s with sessions := Vector.replicate 8 (some ⟨10, 19, 1, 0, 9000, 0⟩) } : State).session id ≠ none) := by
  refine ⟨?_, by decide +kernel, by decide +kernel, ⟨⟨120, 123, 2, 0, 8020, 32⟩, by decide +kernel⟩,
    by decide +kernel, by decide +kernel⟩
  unfold Taking
  decide +kernel

theorem witness_CloseRestockReevaluatesItsRange :
    (∀ a ∈ [(8 : Byte), 2, 1], Taking (asked 2 0x11 [a] session75) (request 2 0x11 [a]) 2 0x11 [a])
    ∧ 7 < (8 : Byte).toNat ∧ session75.session 2 = none
    ∧ (session75.session 1 = some ⟨120, 123, 2, 0, 8020, 32⟩ ∧ session75.zones.holds 2 .session 120 = true)
    ∧ (session75.slot 120).closeAlert (session75.acting.cfg 120) = some .low := by
  unfold Taking
  decide +kernel

/-- Slot 1 is queued with LOW and no slot is held back. -/
def lowQueued : State := (serving Bank.reset).setAlerts [entry 1 .low false, entry 2 .inspect false]

theorem witness_RaisedAlertsMergeQueueOrHoldBack :
    QueueOk lowQueued ∧ (∀ n, (lowQueued.slot n).held = none) ∧ lowQueued.entry (.slot 1) = some (entry 1 .low false)
    ∧ maskHas lowQueued.mgmt.mask .recovered = false ∧ maskHas lowQueued.mgmt.mask .low = false
    ∧ (lowQueued.entry (.slot 9) = none ∧ (lowQueued.slot 9).held = none ∧ lowQueued.alerts.length < 64)
    ∧ (fullQueue.entry (.slot 9) = none ∧ (fullQueue.slot 9).held = none ∧ 64 ≤ fullQueue.alerts.length)
    ∧ ((fullQueue.modSlot 9 fun v => { v with held := some .low }).slot 9).held = some .low
    ∧ maskHas 0x7F .low = true := by
  unfold QueueOk
  decide +kernel

theorem witness_WithdrawalReoffersTheLowestHeldSlot :
    let s := fullQueue.modSlot 9 fun v => { v with held := some .forecast, count := some 3, projection := 8 }
    QueueOk s ∧ s.entry (.slot 100) = some (entry 100 .low false) ∧ (s.slot 9).held = some .forecast
    ∧ (∀ m, m < 9 → (s.slot m).held = none) ∧ s.entry (.slot 9) = none := by
  unfold QueueOk
  decide +kernel

theorem witness_SetAlertMaskSetsThenClears :
    (∀ p ∈ [((0x80 : Byte), (0 : Byte)), (0, 0x80), (0x7F, 0x7F)],
      Taking (asked 0 0x13 [p.1, p.2] lowQueued) (request 0 0x13 [p.1, p.2]) 0 0x13 [p.1, p.2])
    ∧ (0x80 : Byte).getLsbD 7 = true ∧ (0x7F : Byte).getLsbD 7 = false ∧ lowQueued.zones.plan 0 = true :=
  ⟨fun _ _ => ⟨rfl, rfl, rfl, rfl⟩, rfl, rfl, rfl⟩

/-- The bytes of slot 163's record with a threshold above its width and a clear point below its reorder point. -/
def record163 : List Byte := ({ cfg163 with threshold := 9, clear := 5 } : SlotCfg).toBytes

theorem witness_StoredSlotRecordIsAdjusted :
    slotWrite 0xFFFFF record163 SlotCfg.reset
      = some { cfg163 with threshold := 8, clear := 10 }
    ∧ (Bank.reset.write .slotCfg (163 : Slot).val 0xFFFFF record163).isOk = true
    ∧ ({ cfg0 with width := 4, threshold := 6 } : SlotCfg).width = 4 := by decide +kernel

/-- Four channels route to slot 1. -/
def fourMembers : Bank :=
  setMap 0 (live 1) (setMap 8 (live 1) (setMap 16 (live 1) (setMap 24 (live 1) Bank.reset)))

theorem witness_NoWriteLeavesAFifthMember :
    chanWrite 0x1F (live 1).toBytes (fourMembers.map 32) = some (live 1) ∧ (live 1).route = some 1
    ∧ (fourMembers.map 32).route ≠ some 1 ∧ 4 ≤ (fourMembers.members 1).length
    ∧ (fourMembers.write .channelMap 32 0x1F (live 2).toBytes).isOk = true := by decide +kernel

theorem witness_TableRecordsRoundTrip :
    let h : RosterHeader := ⟨128, 15, 1⟩
    h.length.toNat ≤ 128 ∧ h.interleave.toNat ≤ 15 ∧ h.timeout ≠ 0 := by decide

/-- The arguments of a LOAD_RECORDS of one slot record into bank B, window 163 to 163. -/
def loadOne (count start : Byte) : List Byte :=
  [0, 2, 163, 163, start, 0, 0x0F, 0xFF, 0xFF, 0, 0, 0, 0, 0, 0, count]
    ++ if count = 1 then record163 else []

theorem witness_LoadRecordsChecksInOrderAndAdvances :
    (∀ args ∈ [loadOne 1 163, loadOne 9 163, loadOne 0 163, loadOne 1 162],
      Taking (asked 3 0x01 args (serving Bank.reset)) (request 3 0x01 args) 3 0x01 args)
    ∧ bankOfCode (loadArgs (loadOne 1 163)).bank = some .B ∧ (serving Bank.reset).store.serving ≠ some .B
    ∧ (serving Bank.reset).store.requested ≠ some .B ∧ (serving Bank.reset).store.serving = some .A
    ∧ (loadArgs (loadOne 1 163)).start = 163 ∧ (loadArgs (loadOne 1 162)).start < 163 := by
  unfold Taking
  decide +kernel

theorem witness_LoadRecordWritesOneSlotRecord :
    let a := loadArgs (loadOne 1 163)
    Taking (asked 3 0x01 (loadOne 1 163) (serving Bank.reset)) (request 3 0x01 (loadOne 1 163)) 3 0x01 (loadOne 1 163)
    ∧ tableOfCode a.tableCode = some .slotCfg ∧ bankOfCode a.bank = some .B ∧ a.condition = 0 ∧ a.count = 1
    ∧ a.first ≤ 163 ∧ 163 ≤ a.last ∧ a.last ≤ Table.lastPosition .slotCfg
    ∧ a.start = 163 ∧ (serving Bank.reset).store.serving ≠ some .B ∧ (serving Bank.reset).store.requested ≠ some .B
    ∧ (serving Bank.reset).zones.holds 3 .config 163 = true
    ∧ slotWrite a.mask ((loadOne 1 163).drop 16) (Bank.reset.cfg 163) = some { cfg163 with threshold := 8, clear := 10 }
    ∧ slotWrite a.mask (List.replicate 27 0) (Bank.reset.cfg 163) = none := by
  unfold Taking
  decide +kernel

/-- One roster record at position 128, IF_EQUAL on the reply timeout of 4, and one channel map record at position 32,
IF_DIFFERENT on the gain of 0. -/
def loadOther : List (List Byte) :=
  [[2, 2, 128, 128, 128, 0, 0, 0, 0x0E, 1, 3, 0, 0, 0, 4, 1] ++ [5, 1, 9, 0],
    [1, 2, 0, 255, 32, 0, 0, 0, 0x1F, 2, 4, 0, 0, 0, 0, 1] ++ (live 1).toBytes]

/-- Tables 1-6 and 12-5: each value beyond its range is refused where the mask names its field and let pass where
it does not; a reserved bit is refused under any mask; the greatest values in range are stored. -/
theorem test_slot_record_refusals :
    let r := cfg0.toBytes
    (∀ x ∈ [(10, 0, 0x31), (2, 6, 0), (3, 7, 0x10), (4, 10, 128), (5, 11, 0), (5, 11, 63), (7, 14, 0), (16, 21, 16)],
      slotWrite (BitVec.twoPow 32 x.1) (r.set x.2.1 x.2.2) cfg0 = none
      ∧ slotWrite 0 (r.set x.2.1 x.2.2) cfg0 = some cfg0)
    ∧ (∀ x ∈ [(0, 0x40), (11, 0x41), (12, 0x80), (26, 1)], slotWrite 0 (r.set x.1 x.2) cfg0 = none)
    ∧ (∀ x ∈ [(3, 7, 0x0F), (4, 10, 127), (5, 11, 62), (16, 21, 15)],
      (slotWrite (BitVec.twoPow 32 x.1) (r.set x.2.1 x.2.2) cfg0).isSome = true)
    ∧ slotWrite 1 r SlotCfg.reset = none := by decide +kernel

/-- Tables 1-7 and 12-5, and R6: the same for channel map records and roster records. -/
theorem test_channel_and_roster_record_refusals :
    let r := (live 1).toBytes
    (chanWrite 1 (r.set 1 0) (live 1) = none ∧ chanWrite 2 (r.set 1 7) (live 1) = none
      ∧ chanWrite 16 (r.set 5 0) (live 1) = none ∧ chanWrite 1 r ChanMap.reset = none)
    ∧ (∀ x ∈ [(1, 0), (1, 7), (5, 0)], chanWrite 0 (r.set x.1 x.2) (live 1) = some (live 1))
    ∧ (∀ x ∈ [(1, 0x11), (7, 1)], chanWrite 0 (r.set x.1 x.2) (live 1) = none)
    ∧ (entryWrite 1 [32, 0, 0, 0] none = some (some 31) ∧ entryWrite 1 [33, 0, 0, 0] none = none
      ∧ entryWrite 0 [33, 0, 0, 0] none = some none ∧ entryWrite 0 [0, 0, 0, 1] none = none)
    ∧ (headerWrite 0xE [129, 15, 1, 0] Bank.reset.header = some ⟨128, 15, 1⟩
      ∧ headerWrite 0x4 [0, 16, 0, 0] Bank.reset.header = none
      ∧ headerWrite 0x8 [0, 16, 0, 0] Bank.reset.header = none
      ∧ headerWrite 0x2 [0, 16, 0, 0] Bank.reset.header = some Bank.reset.header
      ∧ headerWrite 0 [0, 0, 0, 1] Bank.reset.header = none) := by decide +kernel

theorem witness_LoadRecordWritesOneSlotRecord_others :
    (∀ args ∈ loadOther, Taking (asked 3 0x01 args (serving Bank.reset)) (request 3 0x01 args) 3 0x01 args
      ∧ (loadArgs args).condition ≤ 2 ∧ (loadArgs args).count = 1)
    ∧ (serving Bank.reset).zones.plan 3 = true
    ∧ answer (run .loadRecords (asked 3 0x01 (loadOther[0]) (serving Bank.reset))) = [1, 0, 0x80, 1, 0, 0, 0, 0, 128]
    ∧ answer (run .loadRecords (asked 3 0x01 (loadOther[1]) (serving Bank.reset))) = [1, 0, 0x80, 0, 1, 0, 0, 0, 33]
    ∧ entryWrite 1 [33, 0, 0, 0] none = none ∧ headerWrite 0xE [5, 16, 9, 0] Bank.reset.header = none
    ∧ chanWrite 0x1F (live 1).toBytes ChanMap.reset = some (live 1) := by
  unfold Taking
  decide +kernel

theorem witness_ReadRecordsReturnsStoredRecords :
    (∀ args ∈ [[(2 : Byte), 1, 128, 1], [2, 1, 128, 2], [3, 1, 0, 1], [0, 2, 248, 8]],
      Taking (asked 0 0x02 args State.reset) (request 0 0x02 args) 0 0x02 args)
    ∧ Table.lastPosition .roster < 128 + 2 - 1 ∧ 128 + 1 - 1 ≤ Table.lastPosition .roster
    ∧ 248 + 8 - 1 ≤ Table.lastPosition .slotCfg := by
  unfold Taking
  decide +kernel

theorem witness_CopyBankMakesTheBanksEqual :
    (∀ s ∈ [State.reset, serving bank1032], Taking (asked 0 0x03 [] s) (request 0 0x03 []) 0 0x03 []
      ∧ s.zones.plan 0 = true)
    ∧ State.reset.store.serving = none ∧ (serving bank1032).store.serving = some .A
    ∧ (serving bank1032).store.requested = none := by
  unfold Taking
  decide +kernel

/-- A switch to bank B waits for the roster turn. -/
def switching : State :=
  { polling 2 0 oneEntry with store := { oneEntry.store with requested := some .B } }

/-- The same with two roster entries. -/
def switchingFromTwo : State :=
  { switching with store := { switching.store with
      bankA := { switching.store.bankA with header := ⟨2, 0, 4⟩ } } }

theorem witness_SwitchBankAndCancelFollowTable18 :
    (∀ s ∈ [State.reset, serving Bank.reset, polling 2 0 oneEntry, switching], ∀ a ∈ [(0 : Byte), 1, 2],
      Taking (asked 0 0x04 [a] s) (request 0 0x04 [a]) 0 0x04 [a] ∧ s.zones.plan 0 = true)
    ∧ Taking (asked 0 0x05 [] switching) (request 0 0x05 []) 0 0x05 []
    ∧ ((polling 2 0 oneEntry).store.serving = some .A ∧ (polling 2 0 oneEntry).store.requested = none)
    ∧ (switching.store.serving = some .A ∧ switching.store.requested = some .B)
    ∧ (State.reset.store.serving = none ∧ (serving Bank.reset).acting.length = 0)
    ∧ (oneEntry.acting.length ≠ 0 ∧ (polling 2 0 oneEntry).trunk.txn.isSome = true) := by
  unfold Taking
  decide +kernel

theorem witness_SwitchCompletesAtTheTurnAndKeepsUnchangedSlots :
    (switching.store.requested = some .B ∧ switching.trunk.rosterPtr + 1 = switching.acting.length)
    ∧ (switchingFromTwo.store.requested = some .B
      ∧ switchingFromTwo.trunk.rosterPtr + 1 < switchingFromTwo.acting.length)
    ∧ (∀ ptr ∈ [0, 1], (rosterPoll ptr 0 false).store.requested = none)
    ∧ (let s := { before7 with store := { before7.store with bankB := before7.store.bankA } };
        s.store.serving.isSome = true ∧ s.acting.cfg 163 = (s.store.bank .B).cfg 163
          ∧ s.acting.members 163 = (s.store.bank .B).members 163 ∧ ((s.store.bank .B).cfg 163).enabled = true
          ∧ (s.slot 163).stock ≠ .unknown ∧ (s.slot 163).count = some 42) := by decide +kernel

/-- Slot 163 is kept under another forecast window, and slot 1, whose tare differs and whose LOW is queued, is
changed. -/
theorem witness_SwitchCompletesAtTheTurnAndKeepsUnchangedSlots_forecast :
    let b := setCfg 1 { cfg0 with tare := 5 } (setCfg 163 { cfg163 with forecast := 20 } Bank.reset)
    let s := { before7 with store := { before7.store with bankB := b } }.setAlerts [entry 1 .low false]
    ((s.acting.cfg 163).forecast ≠ (b.cfg 163).forecast ∧ (s.acting.cfg 163).unitWeight = (b.cfg 163).unitWeight
      ∧ (s.acting.cfg 163).tare = (b.cfg 163).tare ∧ s.acting.members 163 = b.members 163
      ∧ (s.acting.cfg 163).enabled = (b.cfg 163).enabled)
    ∧ (s.acting.cfg 1).tare ≠ (b.cfg 1).tare ∧ QueueOk s ∧ (∀ n, (s.slot n).held = none)
    ∧ (s.entry (.slot 1)).isSome = true ∧ (s.acting.cfg 2).forecast = (b.cfg 2).forecast := by
  unfold QueueOk
  decide +kernel

theorem witness_RightsAreResolvedFromZonesThenDefaults :
    let z := { Zones.reset with zones := Zones.reset.zones.set 0 ⟨10, 20, Vector.replicate 8 ⟨true, false, false⟩⟩ }
    (∀ n ∈ [(10 : Slot), 20], ∃ i : Fin 4, (z.zones[i]).first ≤ n ∧ n ≤ (z.zones[i]).last)
    ∧ (∀ n ∈ [(9 : Slot), 21], ∀ i : Fin 4, ¬ ((z.zones[i]).first ≤ n ∧ n ≤ (z.zones[i]).last))
    ∧ Zone.reset.last < Zone.reset.first := by decide +kernel

/-- Source 2 holds neither PLAN nor ADMIN, and the protection capture is full. -/
def noRights : State :=
  { State.reset with zones := { Zones.reset with
      rights := Zones.reset.rights.set 2 ⟨false, false, ⟨true, true, true⟩⟩
      capture := some ⟨1, 0x36, none, 5, false, 255⟩ } }

theorem witness_DenialsChangeOnlyTheCapture :
    State.reset.zones.capture = none ∧ noRights.zones.capture = some ⟨1, 0x36, none, 5, false, 255⟩
    ∧ noRights.zones.plan 2 = false ∧ noRights.zones.admin 2 = false
    ∧ (∀ p ∈ [((0x03 : Byte), ([] : List Byte)), (0x05, []), (0x04, [1]), (0x04, [2]), (0x35, []), (0x36, []),
        (0x3F, []), (0x22, []), (0x20, 3 :: List.replicate 10 0), (0x21, [7, 0])],
      Taking (asked 2 p.1 p.2 noRights) (request 2 p.1 p.2) 2 p.1 p.2) := by
  unfold Taking
  decide +kernel

theorem witness_ZoneRequestsReplaceOneEntry :
    (∀ p ∈ [((0x20 : Byte), 4 :: List.replicate 10 (0 : Byte)), (0x20, 3 :: List.replicate 10 0), (0x21, [8, 0]),
        (0x21, [7, 0]), (0x22, [])],
      Taking (asked 0 p.1 p.2 State.reset) (request 0 p.1 p.2) 0 p.1 p.2)
    ∧ State.reset.zones.admin 0 = true ∧ State.reset.zones.locked = false
    ∧ ({ Zones.reset with locked := true } : Zones).locked = true
    ∧ 3 < (4 : Byte).toNat ∧ 7 < (8 : Byte).toNat := by
  unfold Taking
  decide +kernel

theorem witness_NoCommandStopsOrTouchesKeptState :
    let s := { oneEntry with zones := { Zones.reset with locked := true } }
    s.zones.locked = true ∧ s.store.serving = some .A ∧ ∃ t, exec .alinkGapAbandon s = .next t :=
  ⟨rfl, rfl, _, rfl⟩

theorem witness_UndefinedRequestIsAnsweredAndChangesNothing :
    let f := fun p => formFrame 0xE0 0x38 p
    let s := fun p => { State.reset with mgmt := { State.reset.mgmt with requests := [f p] } }
    (∀ p ∈ [[], [(0 : Byte)], [8, 0x30], [0, 0x77], [7, 0x04]],
      (s p).mgmt.response = none ∧ (s p).mgmt.softReset = false ∧ (s p).mgmt.requests.head? = some (f p))
    ∧ 7 < (8 : Byte).toNat ∧ requestShape 0x77 = none ∧ requestShape 0x04 = some (.fixed 1)
    ∧ Shape.fits (.fixed 1) [] = false := by decide +kernel

theorem witness_StateReadsReportTheState :
    (∀ p ∈ [((0x30 : Byte), ([] : List Byte)), (0x33, []), (0x34, []), (0x31, []), (0x31, [0, 255]),
        (0x32, List.replicate 9 0), (0x32, List.replicate 8 255)],
      Taking (asked 3 p.1 p.2 State.reset) (request 3 p.1 p.2) 3 p.1 p.2)
    ∧ State.reset.store.serving = none := by
  unfold Taking
  decide +kernel

theorem witness_AdminRequestsClearReadAndReset :
    State.reset.zones.admin 0 = true
    ∧ (run .softReset (asked 0 0x3F [] State.reset)).mgmt.softReset = true
    ∧ ∀ c ∈ [(0x35 : Byte), 0x36, 0x3F], Taking (asked 0 c [] State.reset) (request 0 c []) 0 c [] := by
  unfold Taking
  decide +kernel

theorem witness_ResponsePartsCarryAllResultsInOrder :
    ∀ k ∈ [0, 237, 238], (List.replicate k (0 : Byte)).length ≤ 237 * 128 := by decide +kernel

/-- One slot is stocked, one session is open, one entry is queued and a command waits. -/
def inUse : State :=
  (((serving (setCfg 5 cfg0 (setEntry 0 (some 2) 1 Bank.reset))).modSlot 5 fun v => { v with stock := .empty, count := some 0, deadline := some 9 }).setSession 3
    (some ⟨4, 4, 0, 0, 9, 0⟩)).setAlerts [entry 5 .empty true] |>.withCommand .alinkGapAbandon

theorem witness_inUse_steps : ∃ t, step inUse = .next t := ⟨_, rfl⟩

theorem witness_EveryStepKeepsTheAlertQueueInvariant : AlertsOk inUse := by
  have held : ∀ n, (inUse.slot n).held = none := by decide +kernel
  refine ⟨by unfold QueueOk; decide +kernel, fun n k h => ?_, by decide +kernel, fun n k h => ?_⟩
  · simp [held n] at h
  · simp [held n] at h

theorem witness_EveryStepKeepsTheSlotInvariant : SlotsOk inUse := by
  unfold SlotsOk CountOk MotionOk RangesOk UnknownOk
  decide +kernel

/-- A bank that routes no channel gives no slot a member. -/
theorem members_nil (b : Bank) (h : ∀ m ∈ b.chans.toList, m.route = none) (n : Slot) : b.members n = [] := by
  apply List.filter_eq_nil_iff.mpr
  intro p hp
  simp [h p.2 (List.of_mem_zip hp).2]

theorem witness_EveryStepKeepsTablesSessionsAndLines :
    StoreOk inUse ∧ SessionsOk inUse ∧ TrunkOk inUse ∧ LinkOk inUse := by
  have one : ∀ i, i ≠ 3 → inUse.session i = none := by decide +kernel
  have three : inUse.session 3 = some ⟨4, 4, 0, 0, 9, 0⟩ := rfl
  have only : ∀ i r, inUse.session i = some r → i = 3 ∧ r = ⟨4, 4, 0, 0, 9, 0⟩ := by
    intro i r h
    by_cases hi : i = 3
    · subst hi
      rw [three] at h
      exact ⟨rfl, (Option.some.inj h).symm⟩
    · rw [one i hi] at h
      cases h
  refine ⟨⟨?_, ?_, fun r h => by cases h⟩, ⟨fun i r h => ?_, fun i j r q n h k _ _ => ?_⟩, ?_, ?_⟩
  · refine ⟨by unfold CfgOk; decide +kernel, fun n => ?_, by decide +kernel, by decide +kernel⟩
    rw [members_nil _ (by decide +kernel)]
    exact Nat.zero_le _
  · refine ⟨by unfold CfgOk; decide +kernel, fun n => ?_, by decide +kernel, by decide +kernel⟩
    rw [members_nil _ (by decide +kernel)]
    exact Nat.zero_le _
  · rw [(only i r h).2]
  · rw [(only i r h).1, (only j q k).1]
  · unfold TrunkOk MotionListOk
    decide +kernel
  · unfold LinkOk CountersOk
    decide +kernel

theorem witness_EveryStepKeepsStockStatesInAgreement : StockOk inUse ∧ SlotsOk inUse := by
  have others : ∀ n, n ≠ 5 → (inUse.slot n).count = none := by decide +kernel
  have disabled : ∀ n, (inUse.acting.cfg n).enabled = false →
      (inUse.slot n).stock = .unknown ∧ (inUse.slot n).fault = none ∧ (inUse.slot n).motion = none
        ∧ (inUse.slot n).window = none ∧ (inUse.slot n).fresh = 0 := by decide +kernel
  refine ⟨fun n => ⟨fun c h => ?_, disabled n⟩, witness_EveryStepKeepsTheSlotInvariant⟩
  by_cases hn : n = 5
  · subst hn
    have zero : (inUse.slot 5).count = some 0 := rfl
    have empty : (inUse.slot 5).stock = .empty := rfl
    rw [zero] at h
    obtain rfl := Option.some.inj h
    simp [empty]
  · rw [others n hn] at h
    cases h

end Sys2Proof.Tests
end

section
/-!
SUPPORT. The elementary changes that the slot engine, the restock session table and the alert queue are made of.
Every operation of these blocks is a run of such moves (`SlotMoves`), so that an invariant of the sessions, the motion
list or the overflow counts has to be checked against eight moves and not against forty operations.
-/

namespace Sys2Proof.Machine

/-- One elementary change made on the slot path. -/
inductive SlotMove : State → State → Prop
  | slots (s : State) (v : Vector SlotLive 256) : SlotMove s { s with slots := v }
  | alerts (s : State) (q : List AlertEntry) : SlotMove s (s.setAlerts q)
  | queueOverflow (s : State) : SlotMove s (s.modCounters fun c =>
      { c with queueOverflow := satInc Config.counterMax c.queueOverflow })
  | motionOverflow (s : State) : SlotMove s (s.modCounters fun c =>
      { c with motionOverflow := satInc Config.counterMax c.motionOverflow })
  | offer (s : State) (node : Node) (new : node ∉ s.trunk.motionList)
      (room : s.trunk.motionList.length < Config.motionCapacity) :
      SlotMove s (s.modTrunk fun t => { t with motionList := t.motionList ++ [node] })
  | drop (s : State) (node : Node) (listed : node ∈ s.trunk.motionList) :
      SlotMove s (s.modTrunk (·.dropNode node))
  | units (s : State) (id : SessionId) (k : Nat) :
      SlotMove s (s.setSession id ((s.session id).map fun r => { r with added := addUnits r.added k }))
  | free (s : State) (id : SessionId) : SlotMove s (s.setSession id none)

/-- A run of elementary changes on the slot path. -/
abbrev SlotMoves : State → State → Prop := Relation.ReflTransGen SlotMove

/-- A fold of operations that are runs of moves is a run of moves. -/
theorem moves_foldl {α : Type} {R : State → State → Prop} (f : State → α → State)
    (h : ∀ s x, Relation.ReflTransGen R s (f s x)) (xs : List α) (s : State) :
    Relation.ReflTransGen R s (xs.foldl f s) := by
  induction xs generalizing s with
  | nil => exact .refl
  | cons x xs ih => exact (h s x).trans (ih _)

/-! ## Single moves under the model's own names -/

theorem modSlot_moves (s : State) (n : Slot) (f : SlotLive → SlotLive) : SlotMoves s (s.modSlot n f) :=
  .single (.slots s _)

theorem setAlerts_moves (s : State) (q : List AlertEntry) : SlotMoves s (s.setAlerts q) :=
  .single (.alerts s q)

theorem enqueue_moves (b : Bank) (a : Alert) (s : State) : SlotMoves s (s.enqueue b a) :=
  setAlerts_moves s _

theorem clearHeld_moves (p : AlertKind → Bool) (s : State) : SlotMoves s (clearHeld p s) :=
  .single (.slots s _)

theorem countWindows_moves (s : State) : SlotMoves s (countWindows s) :=
  .single (.slots s _)

/-! ## The alert queue -/

theorem reoffer_moves (b : Bank) (s : State) : SlotMoves s (reoffer b s) := by
  unfold reoffer
  split
  · exact .refl
  · split
    · exact .refl
    · exact (enqueue_moves b _ s).trans (modSlot_moves _ _ _)

theorem reoffers_moves (b : Bank) (k : Nat) (s : State) : SlotMoves s (reoffers b k s) := by
  induction k generalizing s with
  | zero => exact .refl
  | succ k ih => exact (reoffer_moves b s).trans (ih _)

theorem withdraw_moves (b : Bank) (k : AlertKey) (s : State) : SlotMoves s (withdraw b k s) := by
  unfold withdraw
  split
  · exact .refl
  · exact (setAlerts_moves s _).trans (reoffer_moves b _)

theorem withdrawKinds_moves (b : Bank) (p : AlertKind → Bool) (s : State) : SlotMoves s (withdrawKinds b p s) :=
  moves_foldl _ (fun s k => withdraw_moves b k s) _ s

theorem withdrawSlot_moves (b : Bank) (n : Slot) (p : AlertKind → Bool) (s : State) :
    SlotMoves s (withdrawSlot b n p s) := by
  have release : ∀ t, SlotMoves s t → SlotMoves s
      (if (t.slot n).held.any p then t.modSlot n fun v => { v with held := none } else t) := by
    intro t h
    split
    · exact h.trans (modSlot_moves _ _ _)
    · exact h
  unfold withdrawSlot
  refine release _ ?_
  split
  · split
    · exact withdraw_moves b _ s
    · exact .refl
  · exact .refl

theorem merge_moves (b : Bank) (a : Alert) (e : AlertEntry) (s : State) : SlotMoves s (merge b a e s) := by
  unfold merge
  dsimp only
  split
  · exact withdraw_moves b _ s
  · split
    · split <;> exact setAlerts_moves s _
    · exact .refl

theorem place_moves (b : Bank) (a : Alert) (s : State) : SlotMoves s (place b a s) := by
  unfold place
  dsimp only
  split
  · exact enqueue_moves b a s
  · split
    · exact (Relation.ReflTransGen.single (.queueOverflow s)).trans (modSlot_moves _ _ _)
    · exact .single (.queueOverflow s)

theorem raiseNew_moves (b : Bank) (a : Alert) (s : State) : SlotMoves s (raiseNew b a s) := by
  unfold raiseNew
  split
  · split
    · exact modSlot_moves s _ _
    · exact place_moves b a s
  · exact place_moves b a s

theorem raiseAlert_moves (b : Bank) (a : Alert) (s : State) : SlotMoves s (raiseAlert b a s) := by
  unfold raiseAlert
  split
  · exact .refl
  · split
    · exact merge_moves b a _ s
    · exact raiseNew_moves b a s

theorem raiseStock_moves (b : Bank) (n : Slot) (k : AlertKind) (s : State) : SlotMoves s (raiseStock b n k s) :=
  raiseAlert_moves b _ s

theorem raiseInspect_moves (b : Bank) (n : Slot) (r : InspectReason) (c : Option Nat) (s : State) :
    SlotMoves s (raiseInspect b n r c s) :=
  (modSlot_moves s n _).trans (raiseAlert_moves b _ _)

/-! ## Forecast and stock states -/

theorem arming_moves (b : Bank) (n : Slot) (s : State) : SlotMoves s (arming b n s) := by
  unfold arming
  dsimp only
  split
  · exact modSlot_moves s n _
  · split
    · exact (raiseAlert_moves b _ s).trans (modSlot_moves _ n _)
    · exact .refl

theorem recompute_moves (b : Bank) (n : Slot) (s : State) : SlotMoves s (recompute b n s) :=
  (modSlot_moves s n _).trans (arming_moves b n _)

theorem windowClose_moves (b : Bank) (n : Slot) (s : State) : SlotMoves s (windowClose b n s) :=
  (modSlot_moves s n _).trans (recompute_moves b n _)

theorem forecastStep_moves (b : Bank) (n : Slot) (s : State) : SlotMoves s (forecastStep b n s) := by
  unfold forecastStep
  dsimp only
  split
  · exact .refl
  · split
    · exact (modSlot_moves s n _).trans (windowClose_moves b n _)
    · exact modSlot_moves s n _

theorem transition_moves (b : Bank) (n : Slot) (new : StockState) (s : State) :
    SlotMoves s (transition b n new s) := by
  unfold transition
  dsimp only
  split
  · split
    · exact modSlot_moves s n _
    · exact (modSlot_moves s n _).trans (raiseStock_moves b n _ _)
  · exact modSlot_moves s n _

theorem stockEvaluate_moves (b : Bank) (n : Slot) (s : State) : SlotMoves s (stockEvaluate b n s) := by
  unfold stockEvaluate
  dsimp only
  split
  · exact .refl
  · split
    · exact .refl
    · exact transition_moves b n _ s

theorem repeatStep_moves (b : Bank) (n : Slot) (s : State) : SlotMoves s (repeatStep b n s) := by
  unfold repeatStep doRepeat
  dsimp only
  split
  · refine Relation.ReflTransGen.trans ?_ (modSlot_moves _ n _)
    split
    · exact raiseStock_moves b n _ s
    · exact .refl
  · exact .refl

theorem slotsPass_moves (b : Bank) (s : State) : SlotMoves s (slotsPass b s) :=
  moves_foldl _ (fun s n => (repeatStep_moves b n s).trans (forecastStep_moves b n _)) _ s

/-! ## The motion list and slot faults -/

theorem offerNode_moves (node : Node) (s : State) : SlotMoves s (offerNode node s) := by
  unfold offerNode
  split
  · exact .refl
  · next new =>
    split
    · next room => exact .single (.offer s node new room)
    · exact .single (.motionOverflow s)

theorem leaveMotion_moves (b : Bank) (n : Slot) (s : State) : SlotMoves s (leaveMotion b n s) := by
  refine moves_foldl _ (fun s node => ?_) _ s
  split
  · next h => exact .single (.drop s node h.1)
  · exact .refl

theorem clearMotion_moves (b : Bank) (n : Slot) (s : State) : SlotMoves s (clearMotion b n s) := by
  unfold clearMotion
  dsimp only
  split
  · exact (modSlot_moves s n _).trans (leaveMotion_moves b n _)
  · exact modSlot_moves s n _

theorem faultTest_moves (b : Bank) (n : Slot) (s : State) : SlotMoves s (faultTest b n s) := by
  unfold faultTest
  split
  · split
    · exact ((modSlot_moves s n _).trans (clearMotion_moves b n _)).trans (raiseAlert_moves b _ _)
    · exact .refl
  · split
    · exact modSlot_moves s n _
    · exact .refl

/-! ## Counting -/

theorem ambiguousCount_moves (b : Bank) (n : Slot) (s : State) : SlotMoves s (ambiguousCount b n s) := by
  unfold ambiguousCount
  dsimp only
  split
  · split
    · exact (modSlot_moves s n _).trans (raiseInspect_moves b n _ _ _)
    · exact modSlot_moves s n _
  · exact .refl

theorem doPutBack_moves (b : Bank) (n : Slot) (k c : Nat) (s : State) : SlotMoves s (doPutBack b n k c s) := by
  unfold doPutBack
  dsimp only
  split
  · exact (modSlot_moves s n _).trans (raiseInspect_moves b n _ _ _)
  · exact modSlot_moves s n _

theorem replenish_moves (n : Slot) (id : SessionId) (k : Nat) (s : State) : SlotMoves s (replenish n id k s) :=
  (Relation.ReflTransGen.single (.units s id k)).trans (modSlot_moves _ n _)

theorem classifyChange_moves (b : Bank) (n : Slot) (old c : Nat) (s : State) :
    SlotMoves s (classifyChange b n old c s) := by
  unfold classifyChange
  split
  · exact modSlot_moves s n _
  · split
    · split
      · exact replenish_moves n _ _ s
      · exact doPutBack_moves b n _ c s
    · exact .refl

theorem handOff_moves (b : Bank) (n : Slot) (s : State) : SlotMoves s (handOff b n s) :=
  (stockEvaluate_moves b n s).trans (recompute_moves b n _)

theorem acceptedCount_moves (b : Bank) (n : Slot) (c : Nat) (s : State) : SlotMoves s (acceptedCount b n c s) := by
  unfold acceptedCount
  dsimp only
  split
  · exact ((modSlot_moves s n _).trans (modSlot_moves _ n _)).trans (handOff_moves b n _)
  · exact (((modSlot_moves s n _).trans (classifyChange_moves b n _ c _)).trans (modSlot_moves _ n _)).trans
      (handOff_moves b n _)

theorem counting_moves (b : Bank) (n : Slot) (g : Int) (s : State) : SlotMoves s (counting b n g s) := by
  unfold counting
  split
  · exact acceptedCount_moves b n _ s
  · exact ambiguousCount_moves b n s

/-! ## Settle windows and replies -/

theorem motionLimitTest_moves (b : Bank) (n : Slot) (s : State) : SlotMoves s (motionLimitTest b n s) := by
  unfold motionLimitTest
  dsimp only
  split
  · exact .refl
  · split
    · exact (modSlot_moves s n _).trans (raiseInspect_moves b n _ _ _)
    · exact .refl

theorem unsettledClose_moves (b : Bank) (n : Slot) (s : State) : SlotMoves s (unsettledClose b n s) :=
  ((modSlot_moves s n _).trans (moves_foldl _ (fun s node => offerNode_moves node s) _ _)).trans
    (motionLimitTest_moves b n _)

theorem settledClose_moves (b : Bank) (n : Slot) (g : Int) (s : State) : SlotMoves s (settledClose b n g s) :=
  (((modSlot_moves s n _).trans (clearMotion_moves b n _)).trans (modSlot_moves _ n _)).trans
    (counting_moves b n g _)

theorem takeSample_moves (b : Bank) (n : Slot) (x : Int) (s : State) : SlotMoves s (takeSample b n x s) := by
  unfold takeSample
  dsimp only
  split
  · exact modSlot_moves s n _
  · exact settledClose_moves b n _ s
  · exact unsettledClose_moves b n s

theorem slotReply_moves (b : Bank) (cs : List Chan) (n : Slot) (s : State) : SlotMoves s (slotReply b cs n s) := by
  unfold slotReply
  dsimp only
  refine (faultTest_moves b n s).trans ?_
  split
  · exact .refl
  · split
    · exact (modSlot_moves _ n _).trans (takeSample_moves b n _ _)
    · exact modSlot_moves _ n _

theorem nodeSilent_moves (b : Bank) (node : Node) (s : State) : SlotMoves s (nodeSilent b node s) :=
  moves_foldl _ (fun s n => faultTest_moves b n s) _ s

theorem zeroReset_moves (b : Bank) (n : Slot) (s : State) : SlotMoves s (zeroReset b n s) := by
  unfold zeroReset
  dsimp only
  refine Relation.ReflTransGen.trans ?_ (withdrawSlot_moves b n _ _)
  split
  · exact (modSlot_moves s n _).trans (leaveMotion_moves b n _)
  · exact modSlot_moves s n _

theorem acknowledge_moves (b : Bank) (n : Slot) (s : State) : SlotMoves s (acknowledge b n s) :=
  (modSlot_moves s n _).trans (withdrawSlot_moves b n _ _)

/-! ## Sessions -/

theorem reevaluate_moves (b : Bank) (n : Slot) (s : State) : SlotMoves s (reevaluate b n s) := by
  have short : SlotMoves s
      (let s' := s.modSlot n fun v => { v with acked := false }
       let s'' := match standing (b.cfg n).mode (b.cfg n).emptyAlert (s.slot n).stock with
         | some kind => raiseStock b n kind s'
         | none => s'
       s''.modSlot n fun v => { v with deadline := some (freshDeadline b n s'') }) := by
    dsimp only
    refine Relation.ReflTransGen.trans ?_ (modSlot_moves _ n _)
    split
    · exact (modSlot_moves s n _).trans (raiseStock_moves b n _ _)
    · exact modSlot_moves s n _
  unfold reevaluate
  dsimp only
  split
  · exact .refl
  · split
    · exact .refl
    · split
      · exact raiseStock_moves b n _ s
      · exact .refl
    · exact short

theorem closeSession_moves (b : Bank) (id : SessionId) (r : Session) (x : Bool) (s : State) :
    SlotMoves s (closeSession b id r x s) := by
  unfold closeSession
  dsimp only
  refine Relation.ReflTransGen.trans ?_
    (moves_foldl _ (fun s n => (reevaluate_moves b n s).trans (modSlot_moves _ n _)) _ _)
  refine (Relation.ReflTransGen.single (.free s id)).trans ?_
  split
  · exact raiseAlert_moves b _ _
  · exact .refl

theorem expireOne_moves (b : Bank) (id : SessionId) (s : State) : SlotMoves s (expireOne b id s) := by
  unfold expireOne
  split
  · split
    · exact closeSession_moves b id _ true s
    · exact .refl
  · exact .refl

theorem sessionsPass_moves (b : Bank) (s : State) : SlotMoves s (sessionsPass b s) :=
  moves_foldl _ (fun s id => expireOne_moves b id s) _ s

/-- What a minute tick makes the blocks do, in any of its three orders. -/
theorem minuteWork_moves (o : TickOrder) (s : State) : SlotMoves s (minuteWork o s) := by
  cases o
  case sessionsFirst => exact (sessionsPass_moves _ s).trans (slotsPass_moves _ _)
  case slotsFirst => exact (slotsPass_moves _ s).trans (sessionsPass_moves _ _)
  case separately => exact countWindows_moves s

theorem markDeficits_moves (a b : Slot) (s : State) : SlotMoves s (markDeficits a b s) :=
  moves_foldl _ (fun s n => modSlot_moves s n _) _ s

/-! ## Completion of a switch -/

theorem changedSlot_moves (new : Bank) (n : Slot) (s : State) : SlotMoves s (changedSlot new n s) := by
  have first := (modSlot_moves s n fun v => { v.toUnknown with fresh := 0 }).trans
    (withdrawSlot_moves new n (fun k => k ≠ .fault) _)
  unfold changedSlot changedFault
  dsimp only
  split
  · exact first.trans (faultTest_moves new n _)
  · exact first.trans (modSlot_moves _ n _)

theorem keptSlot_moves (old new : Bank) (n : Slot) (s : State) : SlotMoves s (keptSlot old new n s) := by
  have evaluate : ∀ t, SlotMoves s t → SlotMoves s
      (if (new.cfg n).enabled && (t.slot n).stock ≠ .unknown then stockEvaluate new n t else t) := by
    intro t h
    split
    · exact h.trans (stockEvaluate_moves new n t)
    · exact h
  unfold keptSlot
  dsimp only
  split
  · exact (evaluate _ (modSlot_moves s n _)).trans
      ((modSlot_moves _ n _).trans (recompute_moves new n _))
  · exact evaluate _ (modSlot_moves s n _)

theorem completeSlot_moves (x : Bool) (old new : Bank) (n : Slot) (s : State) :
    SlotMoves s (completeSlot x old new n s) := by
  unfold completeSlot
  split
  · exact changedSlot_moves new n s
  · exact keptSlot_moves old new n s

end Sys2Proof.Machine
end

section
/-!
SUPPORT. The elementary changes that the trunk, the two lines and the management unit are made of (`Move`), the
slot path's among them. Every command but the resets, the ticks' counting, LOAD_RECORDS and COPY_BANK is a run of such
moves, so that an invariant of these blocks has to be checked against the moves alone.
-/

namespace Sys2Proof.Machine

/-- The streak of a node record is in range, and a node at 3 misses is not ALIVE (R138). -/
def NodeRec.StreakOk (r : NodeRec) : Prop := r.streak ≤ 3 ∧ (r.state = .alive → r.streak < 3)

/-- One elementary change made between two events. A change of a queue or a count carries the reason why it stays
in its range. -/
inductive Move : State → State → Prop
  | slot {s t : State} (h : SlotMove s t) : Move s t
  | chans (s : State) (v : Vector ChanRec 256) : Move s { s with chans := v }
  | nodes (s : State) (v : Vector NodeRec 32)
      (ok : (∀ n, (s.node n).StreakOk) → ∀ n : Node, (v[n]).StreakOk) :
      Move s (s.modTrunk fun t => { t with nodes := v })
  | trunkCapture (s : State) (c : Option TrunkCapture)
      (ok : (∀ k ∈ s.trunk.capture, k.overflowCount ≤ Config.overflowMax) →
        ∀ k ∈ c, k.overflowCount ≤ Config.overflowMax) :
      Move s (s.modTrunk fun t => { t with capture := c })
  | rosterPtr (s : State) (p : Nat) (ok : p = 0 ∨ p < s.acting.length) :
      Move s (s.modTrunk fun t => { t with rosterPtr := p })
  | rosterEmpty (s : State) (x : Bool) : Move s (s.modTrunk fun t => { t with rosterEmpty := x })
  | interleave (s : State) : Move s (s.modTrunk fun t => { t with interleave := satInc 15 t.interleave })
  | poll (s : State) (txn : Transaction) (tag : BitVec 4) (motion : Bool) (quiet : s.trunk.listening = none) :
      Move s (s.modTrunk fun t => { t with
        txn := some txn
        pollTag := tag
        lastKind := .poll
        interleave := if motion then 0 else t.interleave
        motionPtr := if motion then nextPointer t.motionPtr t.motionList.length else t.motionPtr })
  | forward (s : State) (txn : Transaction) (rest : List Frame) (quiet : s.trunk.listening = none)
      (fits : rest.length ≤ s.trunk.forwards.length) :
      Move s (s.modTrunk fun t => { t with txn := some txn, forwards := rest, lastKind := .forward })
  | endTxn (s : State) : Move s s.endTxn
  | window (s : State) (txn : Transaction) (inFlight : s.trunk.txn ≠ none) :
      Move s (s.modTrunk fun t => { t with txn := some txn })
  | trunkRx (s : State) (a : Assembler) : Move s (s.modTrunk fun t => { t with rx := a })
  | listened (s : State) : Move s (s.modTrunk fun t => { t with listening := none })
  | join (s : State) (f : Frame) (room : s.trunk.forwards.length < Config.queueCapacity) :
      Move s (s.modTrunk fun t => { t with forwards := t.forwards ++ [f] })
  | switched (s : State) (target : BankId) :
      Move s ((s.modTrunk fun t =>
        { t with rosterPtr := 0, motionList := [], motionPtr := 0, rosterEmpty := false }).modStore
          fun st => { st with serving := some target, requested := none })
  | pend (s : State) (target : BankId) (other : s.store.serving = some target.other) :
      Move s (s.modStore fun st => { st with requested := some target })
  | cancel (s : State) : Move s (s.modStore fun st => { st with requested := none })
  | link (s : State) (f : AisleLink → AisleLink)
      (fits : s.link.returns.length ≤ Config.queueCapacity → (f s.link).returns.length ≤ Config.queueCapacity) :
      Move s (s.modLink f)
  | mgmt (s : State) (f : Mgmt → Mgmt)
      (fits : s.mgmt.requests.length ≤ Config.queueCapacity → (f s.mgmt).requests.length ≤ Config.queueCapacity)
      (same : (f s.mgmt).counters = s.mgmt.counters) : Move s (s.modMgmt f)
  | counters (s : State) (f : Counters → Counters)
      (ok : CountersOk s.mgmt.counters → CountersOk (f s.mgmt.counters)) : Move s (s.modCounters f)
  | capture (s : State) (c : Option ProtCapture)
      (ok : (∀ k ∈ s.zones.capture, k.overflowCount ≤ Config.overflowMax) →
        ∀ k ∈ c, k.overflowCount ≤ Config.overflowMax) :
      Move s (s.modZones fun z => { z with capture := c })
  | zones (s : State) (f : Zones → Zones) (unlocked : s.zones.locked = false)
      (same : (f s.zones).capture = s.zones.capture) : Move s (s.modZones f)
  | opens (s : State) (id : SessionId) (r : Session) (ordered : r.first ≤ r.last)
      (apart : ∀ j q, s.session j = some q → ¬ (q.first ≤ r.last ∧ r.first ≤ q.last)) :
      Move s (s.setSession id (some r))

/-- A run of elementary changes. -/
abbrev Moves : State → State → Prop := Relation.ReflTransGen Move

/-- A run of moves on the slot path is a run of moves. -/
theorem SlotMoves.moves {s t : State} (h : SlotMoves s t) : Moves s t :=
  Relation.ReflTransGen.mono (fun _ _ => Move.slot) _ _ h

/-- A fold of operations that leave a part of the state alone leaves it alone. -/
theorem foldl_keeps {α β : Type} (g : State → β) (f : State → α → State) (h : ∀ s x, g (f s x) = g s) (xs : List α)
    (s : State) : g (xs.foldl f s) = g s := by
  induction xs generalizing s with
  | nil => rfl
  | cons x xs ih => exact (ih _).trans (h s x)

/-- Of two banks, one that is not the other's namesake is the other. -/
theorem BankId.eq_other_of_ne : ∀ {a b : BankId}, a ≠ b → a = b.other
  | .A, .A, h => absurd rfl h
  | .A, .B, _ => rfl
  | .B, .A, _ => rfl
  | .B, .B, h => absurd rfl h

/-! ## Single moves under the model's own names -/

theorem modSlot_move (s : State) (n : Slot) (f : SlotLive → SlotLive) : Moves s (s.modSlot n f) :=
  (modSlot_moves s n f).moves

theorem modChan_move (s : State) (c : Chan) (f : ChanRec → ChanRec) : Moves s (s.modChan c f) :=
  .single (.chans s _)

/-- Writing one node record, its streak kept in range. -/
theorem modNode_move (s : State) (n : Node) (f : NodeRec → NodeRec)
    (ok : (s.node n).StreakOk → (f (s.node n)).StreakOk) : Moves s (s.modNode n f) := by
  refine .single (.nodes s _ fun h m => ?_)
  have old := h m
  by_cases e : n = m
  · subst e
    simpa [State.node] using ok old
  · simpa [Vector.getElem_set, Fin.val_ne_of_ne e, State.node] using old

/-- One more, up to the top, keeps a capture's overflow count in its range. -/
@[simp] theorem satInc_le (top x : Nat) : satInc top x ≤ top := Nat.min_le_left _ _

theorem nodeLoss_move (s : State) (node : Node) : Moves s (s.nodeLoss node) := by
  refine .single (.trunkCapture s _ fun _ k hk => ?_)
  obtain rfl := Option.mem_some.mp hk
  split
  · exact Nat.zero_le _
  · exact satInc_le _ _

theorem denial_move (s : State) (src : Source) (code : Byte) (n : Option Slot) : Moves s (s.denial src code n) := by
  refine .single (.capture s _ fun _ k hk => ?_)
  obtain rfl := Option.mem_some.mp hk
  split
  · exact Nat.zero_le _
  · exact satInc_le _ _

theorem respond_move (s : State) (tag : BitVec 4) (code : Byte) (status : Status) (rs : List Byte) :
    Moves s (s.respond tag code status rs) :=
  .single (.mgmt s _ id rfl)

theorem dropRequest_move (s : State) : Moves s s.dropRequest :=
  .single (.mgmt s _ (fun h => List.length_tail.trans_le (Nat.sub_le_of_le_add (Nat.le_add_right_of_le h))) rfl)

theorem send_move (s : State) (f : Frame) (x : Bool) : Moves s (s.send f x) :=
  .single (.link s _ id)

/-! ## The arbiter -/

theorem zeroSend_moves (z : RezeroSet) (s : State) : Moves s (zeroSend z s) :=
  (moves_foldl _ (fun s c => modChan_move s c _) _ s).trans (moves_foldl _ (fun s n => modSlot_move s n _) _ _)

theorem completeSwitch_moves (target : BankId) (s : State) : Moves s (completeSwitch target s) :=
  (SlotMoves.moves (moves_foldl _ (fun s' n => completeSlot_moves _ _ _ n s') _ s)).trans
    (.single (.switched _ target))

theorem startPoll_moves (node : Node) (m : Bool) (s : State) (quiet : s.trunk.listening = none) :
    Moves s (startPoll node m s) :=
  (modNode_move s node (fun r => { r with polls := r.polls + 1 }) id).trans (.single (.poll _ _ _ m quiet))

/-- Sending a ZERO leaves the trunk controller alone. -/
@[simp] theorem zeroSend_trunk (z : RezeroSet) (s : State) : (zeroSend z s).trunk = s.trunk := by
  unfold zeroSend
  dsimp only
  exact (foldl_keeps State.trunk _ (by intros; rfl) z.slots _).trans
    (foldl_keeps State.trunk _ (by intros; rfl) z.chans s)

theorem startForward_moves (f : Frame) (rest : List Frame) (s : State) (quiet : s.trunk.listening = none)
    (head : s.trunk.forwards = f :: rest) : Moves s (startForward f rest s) := by
  have start : ∀ u : State, u.trunk = s.trunk → ∀ txn, Moves u (u.modTrunk fun t =>
      { t with txn := some txn, forwards := rest, lastKind := .forward }) := fun u hu txn =>
    .single (.forward u txn rest (by rw [hu]; exact quiet) (by rw [hu, head]; exact Nat.le_succ _))
  unfold startForward
  dsimp only
  split
  · exact (zeroSend_moves _ s).trans (start _ (zeroSend_trunk _ s) _)
  · exact start s rfl _

/-- The trunk controller after a switch completes: only the pointers, the motion list and the mark are set (R13). -/
theorem completeSwitch_trunk (target : BankId) (s : State) : (completeSwitch target s).trunk = { s.trunk with
    rosterPtr := 0, motionList := [], motionPtr := 0, rosterEmpty := false } := by
  have path : SlotPath s (allSlots.foldl (fun s' n =>
      completeSlot s.store.serving.isNone s.acting (s.store.bank target) n s') s) :=
    SlotPath.foldl _ (fun s' n => completeSlot_slotPath _ _ _ n s') _ s
  have same := congrArg State.trunk path
  unfold completeSwitch
  dsimp only [State.modStore_trunk, State.modTrunk_trunk]
  rw [same]

/-- An advance of the roster pointer starts and ends no transaction and no listening period. -/
theorem advanceRoster_quiet (s : State) : (advanceRoster s).1.trunk.txn = s.trunk.txn
    ∧ (advanceRoster s).1.trunk.listening = s.trunk.listening := by
  unfold advanceRoster
  split
  · exact ⟨rfl, rfl⟩
  · dsimp only
    split
    · rw [completeSwitch_trunk]
      exact ⟨rfl, rfl⟩
    · exact ⟨rfl, rfl⟩

theorem advanceRoster_moves (s : State) : Moves s (advanceRoster s).1 := by
  unfold advanceRoster
  split
  · next h => exact .single (.rosterPtr s _ (.inr h))
  · dsimp only
    have turn : Moves s (s.modTrunk fun t => { t with rosterPtr := 0 }) := .single (.rosterPtr s 0 (.inl rfl))
    split
    · exact turn.trans (completeSwitch_moves _ _)
    · exact turn

theorem skipPass_moves (k : Nat) (s : State) (quiet : s.trunk.listening = none) : Moves s (skipPass k s).1 := by
  induction k generalizing s with
  | zero =>
    unfold skipPass
    split
    · exact startPoll_moves _ _ s quiet
    · exact .single (.rosterEmpty s true)
  | succ k ih =>
    unfold skipPass
    split
    · exact startPoll_moves _ _ s quiet
    · have step := advanceRoster_moves s
      have still := (advanceRoster_quiet s).2.trans quiet
      split
      · next e => rw [e] at step; exact step
      · next e => rw [e] at step still; exact step.trans (ih _ still)

theorem makePoll_moves (s : State) (quiet : s.trunk.listening = none) : Moves s (makePoll s).1 := by
  unfold makePoll
  split
  · split
    · exact startPoll_moves _ _ s quiet
    · exact .refl
  · exact skipPass_moves _ s quiet

theorem arbiter_moves (k : Nat) (s : State) : Moves s (arbiter k s) := by
  induction k generalizing s with
  | zero => exact .refl
  | succ k ih =>
    unfold arbiter
    split
    · exact .refl
    · next busy =>
      have quiet : s.trunk.listening = none := by simp_all
      have polled := makePoll_moves s quiet
      split
      · split
        · next e => rw [e] at polled; exact polled.trans (ih _)
        · next e => rw [e] at polled; exact polled
      · split
        · next head => exact startForward_moves _ _ s quiet head
        · split
          · split
            · next e => rw [e] at polled; exact polled.trans (ih _)
            · next e => rw [e] at polled; exact polled
          · exact .refl

/-- A decision of the arbiter, whatever it starts. -/
theorem arbitrate_moves (s : State) : Moves s (arbitrate s) := arbiter_moves _ s

/-! ## The ends of transactions -/

theorem endTxn_move (s : State) : Moves s s.endTxn := .single (.endTxn s)

theorem endPoll_moves (m : Bool) (s : State) : Moves s (endPoll m s) := by
  unfold endPoll
  dsimp only
  split
  · exact (endTxn_move s).trans (arbitrate_moves _)
  · exact (((endTxn_move s).trans (.single (.interleave _))).trans (advanceRoster_moves _)).trans (arbitrate_moves _)

theorem pollMissed_moves (node : Node) (m : Bool) (s : State) : Moves s (pollMissed node m s) := by
  have counted : ∀ g : NodeRec → NodeState, (g (s.node node) = .alive → min 3 ((s.node node).streak + 1) < 3) →
      Moves s (s.modNode node fun r =>
        { r with misses := r.misses + 1, streak := min 3 ((s.node node).streak + 1), state := g r }) :=
    fun g h => modNode_move s node _ fun _ => ⟨Nat.min_le_left _ _, h⟩
  unfold pollMissed
  dsimp only
  refine Relation.ReflTransGen.trans ?_ (endPoll_moves m _)
  split
  · exact ((counted (fun _ => .silent) nofun).trans (nodeLoss_move _ node)).trans
      (SlotMoves.moves (nodeSilent_moves _ node _))
  · next kept =>
    refine counted (·.state) fun alive => ?_
    rw [alive] at kept
    have below : min 3 ((s.node node).streak + 1) ≠ 3 := fun e => kept ⟨e, nofun⟩
    omega

theorem handleSample_moves (node : Node) (payload : List Byte) (s : State) : Moves s (handleSample node payload s) := by
  have readings : ∀ (xs : List (Chan × Reading)) (acc : State × List Chan),
      Moves acc.1 (xs.foldl (takeReading s.acting) acc).1 := by
    intro xs
    induction xs with
    | nil => exact fun acc => .refl
    | cons x xs ih =>
      exact fun acc => (modChan_move acc.1 x.1 fun r => r.read (s.acting.map x.1) x.2).trans
        (ih (takeReading s.acting acc x))
  unfold handleSample
  exact (readings _ (s, [])).trans (SlotMoves.moves (moves_foldl _ (fun s n => slotReply_moves _ _ n s) _ _))

theorem pollAccepted_moves (node : Node) (m : Bool) (payload : List Byte) (s : State) :
    Moves s (pollAccepted node m payload s) :=
  ((modNode_move s node _ fun _ => ⟨Nat.zero_le _, fun _ => Nat.zero_lt_succ _⟩).trans
    (handleSample_moves node payload _)).trans (endPoll_moves m _)

theorem zeroEnd_moves (z : RezeroSet) (ok : Bool) (s : State) : Moves s (zeroEnd z ok s) := by
  have first := moves_foldl (fun s c => s.modChan c fun r => { r with rezero := false })
    (fun s c => modChan_move s c _) z.chans s
  unfold zeroEnd
  dsimp only
  split
  · exact first.trans (SlotMoves.moves (moves_foldl _ (fun s n => zeroReset_moves _ n s) _ _))
  · exact first

theorem placeReturn_moves (f : Frame) (s : State) : Moves s (placeReturn f s) := by
  unfold placeReturn
  split
  · next room => exact .single (.link s _ fun _ => by simpa using room)
  · exact .single (.counters s _ fun h => by simp_all [CountersOk])

theorem endForward_moves (f : Frame) (z : Option RezeroSet) (ok : Bool) (s : State) :
    Moves s (endForward f z ok s) := by
  unfold endForward
  dsimp only
  refine Relation.ReflTransGen.trans ?_ (arbitrate_moves _)
  split
  · exact ((endTxn_move s).trans (placeReturn_moves f _)).trans (zeroEnd_moves _ ok _)
  · exact (endTxn_move s).trans (placeReturn_moves f _)

/-! ## The trunk rows -/

theorem countLate_moves (node : Node) (s : State) : Moves s (countLate node s) := modNode_move s node _ id

theorem trunkFrame_moves (f : Frame) (s : State) : Moves s (trunkFrame f s) := by
  have late : Moves s (lateFrame f s) := by
    unfold lateFrame
    split
    · split
      · exact countLate_moves _ s
      · exact .refl
    · exact .refl
  unfold trunkFrame
  split
  · split
    · exact late
    · unfold windowFrame
      split
      · split
        · exact pollAccepted_moves _ _ _ s
        · exact countLate_moves _ s
        · exact pollMissed_moves _ _ s
      · split
        · exact endForward_moves _ _ _ s
        · exact .refl
      · exact .refl
  · exact late

theorem trunkAbandon_moves (s : State) : Moves s (trunkAbandon s) := by
  unfold trunkAbandon
  split
  · exact pollMissed_moves _ _ s
  · exact .refl

theorem trunkEvent_moves (e : RxEvent) (s : State) : Moves s (trunkEvent e s) := by
  cases e
  case nothing => exact .refl
  case frame f => exact trunkFrame_moves f s
  case overLength => exact trunkAbandon_moves s
  case framingInHunt => exact .refl
  case framingInFrame => exact trunkAbandon_moves s

theorem trunkByte_moves (s : State) (b : RxByte) : Moves s (trunkByte s b) :=
  (Relation.ReflTransGen.single (.trunkRx s _)).trans (trunkEvent_moves _ _)

theorem execTrunkFrameSent_moves (s : State) : ∃ t, execTrunkFrameSent s = .next t ∧ Moves s t := by
  refine ⟨_, rfl, ?_⟩
  split
  · exact (endTxn_move s).trans (arbitrate_moves _)
  · next sending => exact .single (.window s _ (by rw [sending]; exact Option.some_ne_none _))
  · exact .refl

theorem execTrunkGapAbandon_moves (s : State) : ∃ t, execTrunkGapAbandon s = .next t ∧ Moves s t := by
  refine ⟨_, rfl, ?_⟩
  have cut := Relation.ReflTransGen.single (Move.trunkRx s Assembler.reset)
  split
  · exact cut.trans (trunkAbandon_moves _)
  · exact cut

theorem execTrunkFrameAbandoned_moves (b : RxByte) (s : State) :
    ∃ t, execTrunkFrameAbandoned b s = .next t ∧ Moves s t := by
  refine ⟨_, rfl, ?_⟩
  split
  · exact trunkByte_moves s b
  · exact trunkByte_moves s b
  · exact .refl

theorem execReplyWindowClose_moves (s : State) : ∃ t, execReplyWindowClose s = .next t ∧ Moves s t := by
  refine ⟨_, rfl, ?_⟩
  have cut := Relation.ReflTransGen.single
    (Move.trunkRx s (if s.trunk.rx.inFrame then Assembler.reset else s.trunk.rx))
  split
  · exact cut.trans (pollMissed_moves _ _ _)
  · exact cut.trans (endForward_moves _ _ _ _)
  · exact .refl

theorem execListenPeriodEnd_moves (s : State) : ∃ t, execListenPeriodEnd s = .next t ∧ Moves s t := by
  refine ⟨_, rfl, ?_⟩
  split
  · exact (Relation.ReflTransGen.single (.listened s)).trans (arbitrate_moves _)
  · exact .refl

/-! ## The aisle link -/

/-- A counter that saturates is a move. -/
theorem counters_move (s : State) (f : Counters → Counters)
    (ok : CountersOk s.mgmt.counters → CountersOk (f s.mgmt.counters)) : Moves s (s.modCounters f) :=
  .single (.counters s f ok)

theorem queueRequest_moves (f : Frame) (s : State) : Moves s (queueRequest f s) := by
  unfold queueRequest
  split
  · next room => exact .single (.mgmt s _ (fun _ => by simpa using room) rfl)
  · exact counters_move s _ fun h => by simp_all [CountersOk]

theorem queueForward_moves (f : Frame) (s : State) : Moves s (queueForward f s) := by
  unfold queueForward
  split
  · next room => exact (Relation.ReflTransGen.single (.join s f room)).trans (arbitrate_moves _)
  · exact counters_move s _ fun h => by simp_all [CountersOk]

theorem dispatch_moves (f : Frame) (s : State) : Moves s (dispatch f s) := by
  unfold dispatch
  split
  · exact queueRequest_moves f s
  · split
    · exact queueForward_moves f s
    · exact counters_move s _ fun h => by simp_all [CountersOk]

theorem linkEvent_moves (e : RxEvent) (s : State) : Moves s (linkEvent e s) := by
  unfold linkEvent
  split
  · exact .refl
  · split
    · exact dispatch_moves _ s
    · exact counters_move s _ fun h => by simp_all [CountersOk]
  · exact counters_move s _ fun h => by simp_all [CountersOk]
  · exact counters_move s _ fun h => by simp_all [CountersOk]
  · exact counters_move s _ fun h => by simp_all [CountersOk]

theorem linkByte_moves (s : State) (b : RxByte) : Moves s (linkByte s b) :=
  (Relation.ReflTransGen.single (.link s _ id)).trans (linkEvent_moves _ _)

theorem execHuntByteReceived_moves (b : RxByte) (s : State) :
    ∃ t, execHuntByteReceived b s = .next t ∧ Moves s t := by
  refine ⟨_, rfl, ?_⟩
  split
  · exact .refl
  · exact linkByte_moves s b

theorem execAlinkGapAbandon_moves (s : State) : ∃ t, execAlinkGapAbandon s = .next t ∧ Moves s t := by
  refine ⟨_, rfl, ?_⟩
  have cut : Moves s (s.modLink fun l => { l with rx := Assembler.reset }) := .single (.link s _ id)
  split
  · exact cut.trans (counters_move _ _ fun h => by simp_all [CountersOk])
  · exact cut

/-! ## The uplink -/

theorem execResponsePartGrant_moves (s : State) : ∃ t, execResponsePartGrant s = .next t ∧ Moves s t := by
  refine ⟨_, rfl, ?_⟩
  split
  · split
    · exact (Relation.ReflTransGen.single (.mgmt s _ id rfl)).trans (send_move _ _ _)
    · exact .refl
  · exact .refl

theorem execReturnFrameGrant_moves (s : State) : ∃ t, execReturnFrameGrant s = .next t ∧ Moves s t := by
  refine ⟨_, rfl, ?_⟩
  split
  · split
    · next head =>
      refine (Relation.ReflTransGen.single (.link s _ fun h => ?_)).trans (send_move _ _ _)
      rw [head] at h
      exact Nat.le_of_succ_le h
    · exact .refl
  · exact .refl

theorem execAlertGrant_moves (s : State) : ∃ t, execAlertGrant s = .next t ∧ Moves s t := by
  refine ⟨_, rfl, ?_⟩
  split
  · exact (((SlotMoves.moves (setAlerts_moves s _)).trans (send_move _ _ _)).trans (.single (.link _ _ id))).trans
      (SlotMoves.moves (reoffers_moves _ _ _))
  · exact .refl

end Sys2Proof.Machine
end

section
/-!
SUPPORT. What each command can do: set the part back, count a second, write the bank a LOAD_RECORDS names, copy the
serving bank, or make a run of elementary moves. One lemma for each request, and one for all commands.
-/

namespace Sys2Proof.Machine

/-! ## Requests -/

/-- A request whose effects are moves is carried out and answered by moves. -/
theorem finish_moves {s : State} {f : Frame} {code : Byte} {a : Answer} (h : Moves s a.state) :
    Moves s (finish f code a) := by
  have answered := h.trans (respond_move a.state f.tag code a.status a.results)
  unfold finish
  dsimp only
  split
  · exact answered.trans (arbitrate_moves _)
  · exact answered

theorem takeRequest_moves (code : Byte) (k : Source → List Byte → State → Answer)
    (h : ∀ src args s, Moves s (k src args s).state) (s : State) : Moves s (takeRequest code k s) := by
  obtain same | ⟨f, src, args, -, taken⟩ := takeRequest_cases s code k
  · rw [same]
  · rw [taken]
    exact (dropRequest_move s).trans (finish_moves (h src args _))

theorem readRecordsRequest_moves (src : Source) (args : List Byte) (s : State) :
    Moves s (readRecordsRequest src args s).state := by
  unfold readRecordsRequest
  dsimp only
  split
  · split
    · exact .refl
    · split <;> exact .refl
  · exact .refl

theorem listRequest_moves (f : State → Fin 256 → List Byte) (args : List Byte) (s : State) :
    Moves s (listRequest f args s).state := by
  unfold listRequest
  split <;> exact .refl

theorem switchRequest_moves (src : Source) (args : List Byte) (s : State) :
    Moves s (switchRequest src args s).state := by
  unfold switchRequest switchAnswer
  split
  · exact .refl
  · next target _ =>
    split
    · exact denial_move s _ _ _
    · split
      · split
        · exact .single (.cancel s)
        · exact .refl
      · next other =>
        split
        · exact .refl
        · split
          · exact completeSwitch_moves _ s
          · next serves =>
            have toward : s.store.serving = some target.other := by
              rcases h : s.store.serving with _ | b
              · exact absurd (.inl h) serves
              · exact congrArg some (BankId.eq_other_of_ne fun e => other (by rw [h, e]))
            exact (Relation.ReflTransGen.single (.pend s target toward)).trans (.single (.rosterEmpty _ false))

theorem cancelRequest_moves (src : Source) (args : List Byte) (s : State) :
    Moves s (cancelRequest src args s).state := by
  unfold cancelRequest switchAnswer
  split
  · exact denial_move s _ _ _
  · split
    · exact .single (.cancel s)
    · exact .refl

/-- No open session shares a slot with a range that no record overlaps (R112). -/
theorem apart_of_overlapping_none {s : State} {first last : Slot} (h : s.overlapping first last = none)
    (j : SessionId) (q : Session) (hq : s.session j = some q) : ¬ (q.first ≤ last ∧ first ≤ q.last) := by
  have clear := List.find?_eq_none.mp h j (List.mem_finRange j)
  rw [hq] at clear
  simpa using clear

theorem openSession_moves (id : SessionId) (r : Session) (s : State) (ordered : r.first ≤ r.last)
    (apart : ∀ j q, s.session j = some q → ¬ (q.first ≤ r.last ∧ r.first ≤ q.last)) :
    Moves s (openSession id r s) :=
  (Relation.ReflTransGen.single (.opens s id r ordered apart)).trans (SlotMoves.moves (markDeficits_moves _ _ _))

theorem openRequest_moves (src : Source) (args : List Byte) (s : State) :
    Moves s (openRequest src args s).state := by
  unfold openRequest
  dsimp only
  split
  · exact .refl
  · split
    · exact .refl
    · next ordered =>
      split
      · exact denial_move s _ _ _
      · split
        · exact .refl
        · next free =>
          split
          · exact .refl
          · exact openSession_moves _ _ s (not_lt.mp ordered) (apart_of_overlapping_none free)

theorem closeRequest_moves (src : Source) (args : List Byte) (s : State) :
    Moves s (closeRequest src args s).state := by
  unfold closeRequest
  split
  · dsimp only
    split
    · exact .refl
    · split
      · exact denial_move s _ _ _
      · exact SlotMoves.moves (closeSession_moves _ _ _ _ s)
  · exact .refl

theorem ackRequest_moves (src : Source) (args : List Byte) (s : State) : Moves s (ackRequest src args s).state := by
  have each : ∀ (ns : List Slot) (acc : State × List Status), Moves acc.1 (ns.foldl (ackOne src) acc).1 := by
    intro ns
    induction ns with
    | nil => exact fun acc => .refl
    | cons n ns ih =>
      intro acc
      refine Relation.ReflTransGen.trans ?_ (ih (ackOne src acc n))
      unfold ackOne
      split
      · exact SlotMoves.moves (acknowledge_moves _ n _)
      · exact denial_move _ _ _ _
  unfold ackRequest
  split
  · exact .refl
  · exact each _ (s, [])

theorem applyMask_moves (set clear : BitVec 7) (s : State) : Moves s (applyMask set clear s) := by
  have masked : Moves s (s.modMgmt fun m => { m with mask := maskAfter s.mgmt.mask set clear }) :=
    .single (.mgmt s _ id rfl)
  unfold applyMask
  exact masked.trans (SlotMoves.moves ((clearHeld_moves _ _).trans (withdrawKinds_moves _ _ _)))

theorem maskRequest_moves (src : Source) (args : List Byte) (s : State) : Moves s (maskRequest src args s).state := by
  unfold maskRequest
  split
  · exact .refl
  · split
    · exact denial_move s _ _ _
    · exact applyMask_moves _ _ s

theorem zoneRequest_moves (src : Source) (args : List Byte) (s : State) : Moves s (zoneRequest src args s).state := by
  unfold zoneRequest zoneAnswer
  split
  · split
    · exact denial_move s _ _ _
    · split
      · exact .refl
      · next unlocked =>
          dsimp only
          exact .single (.zones s _ (Bool.eq_false_of_not_eq_true unlocked) rfl)
  · exact .refl

theorem rightsRequest_moves (src : Source) (args : List Byte) (s : State) :
    Moves s (rightsRequest src args s).state := by
  unfold rightsRequest zoneAnswer
  split
  · split
    · exact denial_move s _ _ _
    · split
      · exact .refl
      · next unlocked =>
          dsimp only
          exact .single (.zones s _ (Bool.eq_false_of_not_eq_true unlocked) rfl)
  · exact .refl

theorem lockRequest_moves (src : Source) (args : List Byte) (s : State) : Moves s (lockRequest src args s).state := by
  unfold lockRequest zoneAnswer
  split
  · exact denial_move s _ _ _
  · split
    · exact .refl
    · next unlocked =>
          dsimp only
          exact .single (.zones s _ (Bool.eq_false_of_not_eq_true unlocked) rfl)

theorem clearRequest_moves (src : Source) (args : List Byte) (s : State) :
    Moves s (clearRequest src args s).state := by
  have zero : Moves s (s.modCounters fun _ => Counters.zero) :=
    counters_move s _ fun _ => by simp [CountersOk, Counters.zero]
  unfold clearRequest
  split
  · exact denial_move s _ _ _
  · refine zero.trans (.single (.nodes _ _ fun old n => ?_))
    simpa [NodeRec.StreakOk, State.node] using old n

theorem faultsRequest_moves (src : Source) (args : List Byte) (s : State) :
    Moves s (faultsRequest src args s).state := by
  unfold faultsRequest
  split
  · exact denial_move s _ _ _
  · exact (Relation.ReflTransGen.single (.trunkCapture s none fun _ => nofun)).trans
      (.single (.capture _ none fun _ => nofun))

theorem softResetRequest_moves (src : Source) (args : List Byte) (s : State) :
    Moves s (softResetRequest src args s).state := by
  unfold softResetRequest
  split
  · exact denial_move s _ _ _
  · rw [Answer.plain_state]
    exact .single (.mgmt s _ id rfl)

theorem execUndefinedRequest_moves (s : State) : ∃ t, execUndefinedRequest s = .next t ∧ Moves s t := by
  refine ⟨_, rfl, ?_⟩
  split
  · exact .refl
  · split
    · exact (dropRequest_move s).trans (respond_move _ _ _ _ _)
    · exact .refl

/-! ## LOAD_RECORDS -/

/-- One change that a LOAD_RECORDS of a bank makes: a denial recorded, or a record written into that bank. -/
inductive LoadMove (bank : BankId) : State → State → Prop
  | denied (s : State) (src : Source) (code : Byte) (n : Option Slot) : LoadMove bank s (s.denial src code n)
  | written (s : State) (t : Table) (pos : Nat) (mask : Word) (r : List Byte) (b : Bank)
      (h : (s.store.bank bank).write t pos mask r = .ok b) :
      LoadMove bank s (s.modStore fun st => st.setBank bank b)

/-- The changes of a LOAD_RECORDS of a bank. -/
abbrev LoadMoves (bank : BankId) : State → State → Prop := Relation.ReflTransGen (LoadMove bank)

theorem loadRecord_moves (src : Source) (a : LoadArgs) (t : Table) (bank : BankId) (acc : State × LoadProgress)
    (r : List Byte) : LoadMoves bank acc.1 (loadRecord src a t bank acc r).1 := by
  unfold loadRecord
  dsimp only
  split
  · exact .single (.denied _ _ _ _)
  · split
    · exact .refl
    · split
      · next written => exact .single (.written _ t _ _ r _ written)
      · exact .refl

theorem loadRecords_moves (src : Source) (a : LoadArgs) (t : Table) (bank : BankId) (rs : List (List Byte))
    (acc : State × LoadProgress) : LoadMoves bank acc.1 (rs.foldl (loadRecord src a t bank) acc).1 := by
  induction rs generalizing acc with
  | nil => exact .refl
  | cons r rs ih => exact (loadRecord_moves src a t bank acc r).trans (ih _)

/-- The request-level checks let no record through to the serving or the requested bank (R167). -/
theorem loadChecks_none_bank {a : LoadArgs} {st : TableStore} {bank : BankId} (hb : bankOfCode a.bank = some bank)
    (h : loadChecks a st = none) : st.serving ≠ some bank ∧ st.requested ≠ some bank := by
  unfold loadChecks at h
  rw [hb] at h
  split at h
  · next t b _ e =>
    obtain rfl := Option.some.inj e
    split at h
    · cases h
    · split at h
      · cases h
      · next serving =>
        split at h
        · cases h
        · next requested => exact ⟨serving, requested⟩
  · cases h

/-! ## All commands -/

/-- What a command `c` can make of a state. -/
inductive Effect (c : Instr) (s : State) : State → Prop
  | reset (cause : ResetCause) (strap : BitVec 3) (row : c = .powerOn strap ∨ c = .pinReset strap) :
      Effect c s (State.powered cause strap s.pending)
  | resetPoint : Effect c s s.afterSoftReset
  | tick {t : State} (o : TickOrder) (row : c = .oneSecondTick o ∨ c = .minuteTick o) (time : TimeBase)
      (phase : time.phase < 60) (h : Moves { s with time := time } t) : Effect c s t
  | load {u : State} (bank : BankId) (tag : BitVec 4) (code : Byte) (status : Status) (results : List Byte)
      (serving : s.store.serving ≠ some bank) (requested : s.store.requested ≠ some bank)
      (h : LoadMoves bank s.dropRequest u) : Effect c s (u.respond tag code status results)
  | copy (id : BankId) (tag : BitVec 4) (code : Byte) (status : Status) (results : List Byte)
      (serving : s.store.serving = some id) :
      Effect c s ((s.dropRequest.modStore fun st => st.setBank id.other (st.bank id)).respond tag code status results)
  | moves {t : State} (h : Moves s t) : Effect c s t

/-- A meaning that completes by moves. -/
theorem effect_of_moves {c : Instr} {s : State} {x : Host.Outcome State Fault Refusal}
    (h : ∃ t, x = .next t ∧ Moves s t) : ∃ t, x = .next t ∧ Effect c s t := by
  obtain ⟨t, ht, moves⟩ := h
  exact ⟨t, ht, .moves moves⟩

theorem effect_of_request {c : Instr} (s : State) (code : Byte) (k : Source → List Byte → State → Answer)
    (h : ∀ src args s, Moves s (k src args s).state) :
    ∃ t, (.next (takeRequest code k s) : Host.Outcome State Fault Refusal) = .next t ∧ Effect c s t :=
  ⟨_, rfl, .moves (takeRequest_moves code k h s)⟩

theorem secondTick_phase (s : State) : (secondTick s).time.phase < 60 := by
  unfold secondTick State.minuteDue
  dsimp only
  split
  · exact Nat.zero_lt_succ _
  · next h => exact lt_of_not_ge (of_decide_eq_false (Bool.eq_false_of_not_eq_true h))

theorem tick_effect {c : Instr} (o : TickOrder) (row : c = .oneSecondTick o ∨ c = .minuteTick o) (s : State) :
    Effect c s (tick o s) := by
  unfold tick
  split
  · exact .tick o row { (secondTick s).time with minutes := (secondTick s).time.minutes + 1 } (secondTick_phase s)
      (SlotMoves.moves (minuteWork_moves o _))
  · exact .tick o row (secondTick s).time (secondTick_phase s) .refl

theorem execMinuteTick_effect (o : TickOrder) (s : State) :
    ∃ t, execMinuteTick o s = .next t ∧ Effect (.minuteTick o) s t := by
  refine ⟨_, rfl, ?_⟩
  split
  · exact tick_effect o (.inr rfl) s
  · exact .moves .refl

theorem execLoadRecords_effect (c : Instr) (s : State) : ∃ t, execLoadRecords s = .next t ∧ Effect c s t := by
  refine ⟨_, rfl, ?_⟩
  obtain same | ⟨f, src, args, -, taken⟩ := takeRequest_cases s codeLoadRecords loadRequest
  · rw [same]
    exact .moves .refl
  · rw [taken]
    unfold loadRequest
    dsimp only
    split
    · exact .moves ((dropRequest_move s).trans (finish_moves .refl))
    · next passed =>
      split
      · next bank ht hb =>
        obtain ⟨serving, requested⟩ := loadChecks_none_bank hb passed
        exact .load bank _ _ _ _ serving requested (loadRecords_moves src _ _ bank _ (s.dropRequest, _))
      · exact .moves ((dropRequest_move s).trans (finish_moves .refl))

theorem execCopyBank_effect (c : Instr) (s : State) : ∃ t, execCopyBank s = .next t ∧ Effect c s t := by
  refine ⟨_, rfl, ?_⟩
  obtain same | ⟨f, src, args, -, taken⟩ := takeRequest_cases s codeCopyBank copyRequest
  · rw [same]
    exact .moves .refl
  · rw [taken]
    unfold copyRequest
    split
    · exact .moves ((dropRequest_move s).trans (finish_moves (denial_move _ _ _ _)))
    · split
      · exact .moves ((dropRequest_move s).trans (finish_moves .refl))
      · next id serving =>
        split
        · exact .moves ((dropRequest_move s).trans (finish_moves .refl))
        · exact .copy id _ _ _ _ serving

theorem execResetPoint_effect (c : Instr) (s : State) : ∃ t, execResetPoint s = .next t ∧ Effect c s t := by
  refine ⟨_, rfl, ?_⟩
  split
  · exact .resetPoint
  · exact .moves .refl

theorem execUplinkFrameDone_effect (c : Instr) (s : State) :
    ∃ t, execUplinkFrameDone s = .next t ∧ Effect c s t := by
  refine ⟨_, rfl, ?_⟩
  split
  · exact .resetPoint
  · exact .moves (.single (.link s _ id))

theorem execForecastWindowClose_moves (n : Slot) (s : State) :
    ∃ t, execForecastWindowClose n s = .next t ∧ Moves s t := by
  refine ⟨_, rfl, ?_⟩
  split
  · exact SlotMoves.moves (windowClose_moves _ n s)
  · exact .refl

/-- Every command completes, with one of the effects above. -/
theorem exec_effect (c : Instr) (s : State) : ∃ t, exec c s = .next t ∧ Effect c s t := by
  cases c with
  | powerOn strap => exact ⟨_, rfl, .reset .power strap (.inl rfl)⟩
  | pinReset strap => exact ⟨_, rfl, .reset .pin strap (.inr rfl)⟩
  | oneSecondTick o => exact ⟨_, rfl, tick_effect o (.inl rfl) s⟩
  | minuteTick o => exact execMinuteTick_effect o s
  | repeatAlert n => exact ⟨_, rfl, .moves (SlotMoves.moves (repeatStep_moves _ n s))⟩
  | sessionExpiry id => exact ⟨_, rfl, .moves (SlotMoves.moves (expireOne_moves _ id s))⟩
  | forecastWindowClose n => exact effect_of_moves (execForecastWindowClose_moves n s)
  | alinkFrameReceived bytes => exact ⟨_, rfl, .moves (moves_foldl _ linkByte_moves bytes s)⟩
  | alinkGapAbandon => exact effect_of_moves (execAlinkGapAbandon_moves s)
  | loadRecords => exact execLoadRecords_effect _ s
  | readRecords => exact effect_of_request s _ _ readRecordsRequest_moves
  | copyBank => exact execCopyBank_effect _ s
  | switchBank => exact effect_of_request s _ _ switchRequest_moves
  | cancelSwitch => exact effect_of_request s _ _ cancelRequest_moves
  | openRestock => exact effect_of_request s _ _ openRequest_moves
  | closeRestock => exact effect_of_request s _ _ closeRequest_moves
  | ackSlot => exact effect_of_request s _ _ ackRequest_moves
  | setAlertMask => exact effect_of_request s _ _ maskRequest_moves
  | setZone => exact effect_of_request s _ _ zoneRequest_moves
  | setSourceRights => exact effect_of_request s _ _ rightsRequest_moves
  | lockZones => exact effect_of_request s _ _ lockRequest_moves
  | readStatus => exact effect_of_request s _ _ fun _ _ _ => .refl
  | readSlot => exact effect_of_request s _ _ fun _ => listRequest_moves slotBytes
  | readChannel => exact effect_of_request s _ _ fun _ => listRequest_moves chanBytes
  | readNodes => exact effect_of_request s _ _ fun _ _ _ => .refl
  | readCounters => exact effect_of_request s _ _ fun _ _ _ => .refl
  | clearCounters => exact effect_of_request s _ _ clearRequest_moves
  | readFaults => exact effect_of_request s _ _ faultsRequest_moves
  | softReset => exact effect_of_request s _ _ softResetRequest_moves
  | undefinedRequest => exact effect_of_moves (execUndefinedRequest_moves s)
  | resetPoint => exact execResetPoint_effect _ s
  | responsePartGrant => exact effect_of_moves (execResponsePartGrant_moves s)
  | returnFrameGrant => exact effect_of_moves (execReturnFrameGrant_moves s)
  | alertGrant => exact effect_of_moves (execAlertGrant_moves s)
  | uplinkFrameDone => exact execUplinkFrameDone_effect _ s
  | trunkFrameSent => exact effect_of_moves (execTrunkFrameSent_moves s)
  | trunkFrameReceived bytes => exact ⟨_, rfl, .moves (moves_foldl _ trunkByte_moves bytes s)⟩
  | trunkGapAbandon => exact effect_of_moves (execTrunkGapAbandon_moves s)
  | replyWindowClose => exact effect_of_moves (execReplyWindowClose_moves s)
  | listenPeriodEnd => exact effect_of_moves (execListenPeriodEnd_moves s)
  | huntByteReceived b => exact effect_of_moves (execHuntByteReceived_moves b s)
  | trunkFrameAbandoned b => exact effect_of_moves (execTrunkFrameAbandoned_moves b s)

end Sys2Proof.Machine
end

section
/-!
PROOFS. The rules of the whole machine (O51): no command stops, none but a reset unlocks the zone tables or empties the
serving bank, none changes the bank that serves, and only the ticks and the two hard resets move the time base.
-/

namespace Sys2Proof.Machine

/-- What no elementary move does: touch the waiting commands, the straps, the time base or a bank, end the serving of
a bank, or change locked tables. -/
structure Steady (s t : State) : Prop where
  pending : t.pending = s.pending
  strap : t.strap = s.strap
  time : t.time = s.time
  bank : ∀ b, t.store.bank b = s.store.bank b
  serving : s.store.serving.isSome = true → t.store.serving.isSome = true
  locked : s.zones.locked = true →
    t.zones.zones = s.zones.zones ∧ t.zones.rights = s.zones.rights ∧ t.zones.locked = true

theorem Steady.refl (s : State) : Steady s s :=
  ⟨rfl, rfl, rfl, fun _ => rfl, id, fun h => ⟨rfl, rfl, h⟩⟩

theorem Steady.trans {s t u : State} (h : Steady s t) (k : Steady t u) : Steady s u where
  pending := k.pending.trans h.pending
  strap := k.strap.trans h.strap
  time := k.time.trans h.time
  bank b := (k.bank b).trans (h.bank b)
  serving x := k.serving (h.serving x)
  locked x := by
    obtain ⟨zones, rights, locked⟩ := h.locked x
    obtain ⟨zones', rights', locked'⟩ := k.locked locked
    exact ⟨zones'.trans zones, rights'.trans rights, locked'⟩

/-- A change that leaves the waiting commands, the straps, the time, the table store and the zone tables alone. -/
theorem steady_of_eq {s t : State} (pending : t.pending = s.pending) (strap : t.strap = s.strap)
    (time : t.time = s.time) (store : t.store = s.store)
    (zones : t.zones = { s.zones with capture := t.zones.capture }) : Steady s t where
  pending := pending
  strap := strap
  time := time
  bank b := by rw [store]
  serving h := by rw [store]; exact h
  locked h := by rw [zones]; exact ⟨rfl, rfl, h⟩

theorem Move.steady {s t : State} (h : Move s t) : Steady s t := by
  cases h with
  | slot h => cases h <;> exact steady_of_eq rfl rfl rfl rfl rfl
  | switched target => exact ⟨rfl, rfl, rfl, fun b => by cases b <;> rfl, fun _ => rfl, fun h => ⟨rfl, rfl, h⟩⟩
  | pend target other => exact ⟨rfl, rfl, rfl, fun b => by cases b <;> rfl, id, fun h => ⟨rfl, rfl, h⟩⟩
  | cancel => exact ⟨rfl, rfl, rfl, fun b => by cases b <;> rfl, id, fun h => ⟨rfl, rfl, h⟩⟩
  | zones f unlocked same =>
    exact ⟨rfl, rfl, rfl, fun _ => rfl, id, fun locked => by rw [unlocked] at locked; cases locked⟩
  | _ => exact steady_of_eq rfl rfl rfl rfl rfl

theorem Moves.steady {s t : State} (h : Moves s t) : Steady s t := by
  induction h with
  | refl => exact .refl s
  | tail _ move ih => exact ih.trans move.steady

/-- What no LOAD_RECORDS of a bank changes: anything but that bank's records and the protection capture. -/
structure LoadFrame (bank : BankId) (s t : State) : Prop where
  pending : t.pending = s.pending
  strap : t.strap = s.strap
  time : t.time = s.time
  other : t.store.bank bank.other = s.store.bank bank.other
  serving : t.store.serving = s.store.serving
  requested : t.store.requested = s.store.requested
  sessions : t.sessions = s.sessions
  trunk : t.trunk = s.trunk
  link : t.link = s.link
  mgmt : t.mgmt = s.mgmt
  zones : t.zones = { s.zones with capture := t.zones.capture }

theorem LoadFrame.refl (bank : BankId) (s : State) : LoadFrame bank s s :=
  ⟨rfl, rfl, rfl, rfl, rfl, rfl, rfl, rfl, rfl, rfl, rfl⟩

theorem LoadFrame.trans {bank : BankId} {s t u : State} (h : LoadFrame bank s t) (k : LoadFrame bank t u) :
    LoadFrame bank s u where
  pending := k.pending.trans h.pending
  strap := k.strap.trans h.strap
  time := k.time.trans h.time
  other := k.other.trans h.other
  serving := k.serving.trans h.serving
  requested := k.requested.trans h.requested
  sessions := k.sessions.trans h.sessions
  trunk := k.trunk.trans h.trunk
  link := k.link.trans h.link
  mgmt := k.mgmt.trans h.mgmt
  zones := by
    have zones := k.zones
    rw [h.zones] at zones
    exact zones

theorem LoadMove.frame {bank : BankId} {s t : State} (h : LoadMove bank s t) : LoadFrame bank s t := by
  cases h with
  | denied src code n => exact ⟨rfl, rfl, rfl, rfl, rfl, rfl, rfl, rfl, rfl, rfl, rfl⟩
  | written t pos mask r b h =>
    exact ⟨rfl, rfl, rfl, TableStore.bank_setBank_other _ bank b, TableStore.setBank_serving _ bank b,
      TableStore.setBank_requested _ bank b, rfl, rfl, rfl, rfl, rfl⟩

theorem LoadMoves.frame {bank : BankId} {s t : State} (h : LoadMoves bank s t) : LoadFrame bank s t := by
  induction h with
  | refl => exact .refl bank s
  | tail _ move ih => exact ih.trans move.frame

/-- What every command but POWER_ON and PIN_RESET keeps: the straps, locked tables, and the contents of the bank that
serves, which stays in service or hands over to the other. -/
structure Guarded (s t : State) : Prop where
  strap : t.strap = s.strap
  serving : ∀ b, s.store.serving = some b → t.store.serving.isSome = true ∧ t.store.bank b = s.store.bank b
  locked : s.zones.locked = true →
    t.zones.zones = s.zones.zones ∧ t.zones.rights = s.zones.rights ∧ t.zones.locked = true

theorem Steady.guarded {s t : State} (h : Steady s t) : Guarded s t :=
  ⟨h.strap, fun b hb => ⟨h.serving (by rw [hb]; rfl), h.bank b⟩, h.locked⟩

/-- The bank a LOAD_RECORDS writes is not the one that serves (R167). -/
theorem LoadFrame.guarded {bank : BankId} {s t : State} (h : LoadFrame bank s t)
    (serving : s.store.serving ≠ some bank) : Guarded s t where
  strap := h.strap
  serving b hb := by
    obtain rfl : b = bank.other := BankId.eq_other_of_ne fun e => serving (by rw [hb, e])
    exact ⟨by rw [h.serving, hb]; rfl, h.other⟩
  locked locked := by
    rw [h.zones]
    exact ⟨rfl, rfl, locked⟩

theorem Effect.guarded {c : Instr} {s t : State} (h : Effect c s t) (soft : ∀ k, c ≠ .powerOn k ∧ c ≠ .pinReset k) :
    Guarded s t := by
  cases h with
  | reset cause strap row => exact (row.elim (soft strap).1 (soft strap).2).elim
  | resetPoint => exact ⟨rfl, fun b hb => ⟨by rw [State.afterSoftReset_store, hb]; rfl, by cases b <;> rfl⟩,
      fun locked => ⟨rfl, rfl, locked⟩⟩
  | tick o row time phase h =>
    obtain ⟨strap, serving, locked⟩ := (Moves.steady h).guarded
    exact ⟨strap, serving, locked⟩
  | load bank tag code status results serving requested h =>
    obtain ⟨strap, kept, locked⟩ := (LoadMoves.frame h).guarded serving
    exact ⟨strap, kept, locked⟩
  | copy id tag code status results serving =>
    refine ⟨rfl, fun b hb => ?_, fun locked => ⟨rfl, rfl, locked⟩⟩
    obtain rfl := Option.some.inj (serving.symm.trans hb)
    cases id <;> exact ⟨by rw [State.respond_store]; exact serving ▸ rfl, rfl⟩
  | moves h => exact (Moves.steady h).guarded

theorem Effect.pending {c : Instr} {s t : State} (h : Effect c s t) : t.pending = s.pending := by
  cases h with
  | reset cause strap row => rfl
  | resetPoint => rfl
  | tick o row time phase h => exact (Moves.steady h).pending
  | load bank tag code status results serving requested h => exact (LoadMoves.frame h).pending
  | copy id tag code status results serving => rfl
  | moves h => exact (Moves.steady h).pending

/-- Only the tick rows and the hard resets move the time base. -/
theorem Effect.time {c : Instr} {s t : State} (h : Effect c s t) (soft : ∀ k, c ≠ .powerOn k ∧ c ≠ .pinReset k)
    (noTick : ∀ o, c ≠ .oneSecondTick o ∧ c ≠ .minuteTick o) : t.time = s.time := by
  cases h with
  | reset cause strap row => exact (row.elim (soft strap).1 (soft strap).2).elim
  | resetPoint => rfl
  | tick o row time phase h => exact (row.elim (noTick o).1 (noTick o).2).elim
  | load bank tag code status results serving requested h => exact (LoadMoves.frame h).time
  | copy id tag code status results serving => rfl
  | moves h => exact (Moves.steady h).time

/-- The effect of a command that completes. -/
theorem effect_of_exec {c : Instr} {s t : State} (h : exec c s = .next t) : Effect c s t := by
  obtain ⟨u, hu, effect⟩ := exec_effect c s
  rw [hu] at h
  cases h
  exact effect

/-- A step is the effect of the front command, or idling. -/
theorem step_cases {s t : State} (h : step s = .next t) :
    t = s ∨ ∃ c rest, s.pending = c :: rest ∧ Effect c { s with pending := rest } t := by
  unfold step at h
  split at h
  · next c rest front => exact .inr ⟨c, rest, front, effect_of_exec h⟩
  · cases h
    exact .inl rfl

theorem step_safe (s : State) : SafeStep s := by
  unfold SafeStep step
  split
  · next c rest _ =>
    obtain ⟨t, ht, -⟩ := exec_effect c { s with pending := rest }
    exact ⟨t, ht⟩
  · exact ⟨s, rfl⟩

/-- Settles O51: each part is read off the effect of the command. -/
theorem noCommandStopsOrTouchesKeptState : Obligations.NoCommandStopsOrTouchesKeptState := by
  refine ⟨⟨fun c s => ?_, step_safe⟩, fun c s t locked soft h => ((effect_of_exec h).guarded soft).locked locked,
    fun c s t b serving soft h => ((effect_of_exec h).guarded soft).serving b serving,
    fun c s t soft h => ⟨((effect_of_exec h).guarded soft).strap, (effect_of_exec h).time soft⟩⟩
  obtain ⟨t, ht, effect⟩ := exec_effect c s
  exact ⟨t, ht, effect.pending⟩

end Sys2Proof.Machine
end

section
/-!
SUPPORT. What a record write does (R2 to R6), table by table: which records it refuses and what it stores.
-/

namespace Sys2Proof.Machine

/-! ## Numbers in bytes -/

theorem beNat_append (bs : List Byte) (b : Byte) : beNat (bs ++ [b]) = beNat bs * 256 + b.toNat := by
  simp [beNat]

theorem beNat_lt (bs : List Byte) : beNat bs < 256 ^ bs.length := by
  induction bs using List.reverseRecOn with
  | nil => exact Nat.one_pos
  | append_singleton bs b ih =>
    rw [beNat_append, List.length_append, List.length_singleton, pow_succ]
    have := b.isLt
    omega

/-- A field of `k` bytes is a number of `8 * k` bits. -/
theorem fieldAt_lt (bs : List Byte) (i k : Nat) : fieldAt bs i k < 256 ^ k :=
  (beNat_lt _).trans_le (Nat.pow_le_pow_right (by decide) (List.length_take_le _ _))

theorem fieldAt_two_lt (bs : List Byte) (i : Nat) : fieldAt bs i 2 < 65536 := fieldAt_lt bs i 2

theorem fieldAt_three_lt (bs : List Byte) (i : Nat) : fieldAt bs i 3 < 16777216 := fieldAt_lt bs i 3

theorem bitVec_eq_zero_iff {w : Nat} (x : BitVec w) : x = 0 ↔ x.toNat = 0 := by
  rw [← BitVec.toNat_inj]
  rfl

/-- A 16-bit field is 0 exactly when its bytes are. -/
theorem ofNat_fieldAt_two_eq_zero (bs : List Byte) (i : Nat) :
    BitVec.ofNat 16 (fieldAt bs i 2) = 0#16 ↔ fieldAt bs i 2 = 0 := by
  have := fieldAt_two_lt bs i
  refine (bitVec_eq_zero_iff _).trans ?_
  rw [BitVec.toNat_ofNat]
  omega

/-- A field that a mask bit selects is 0 exactly when the number selected is. -/
theorem masked_eq_zero_iff {w : Nat} {x y : BitVec w} {k : Nat} (p : Prop) [Decidable p] (h : x = 0 ↔ k = 0) :
    (if p then x else y) = 0 ↔ (if p then k else y.toNat) = 0 := by
  split
  · exact h
  · exact bitVec_eq_zero_iff y

/-- The two high bits of a byte are clear exactly when it is below 64. -/
theorem bitsAt_six_two_eq_zero (b : Byte) : bitsAt b 6 2 = 0 ↔ b.toNat < 64 := by
  have := b.isLt
  simp only [bitsAt]
  omega

/-! ## Slot configuration records (R2, R3) -/

theorem slotReservedOk_iff (r : List Byte) : slotReservedOk r = true ↔
    (byteAt r 0).toNat < 64 ∧ (byteAt r 11).toNat < 64 ∧ (byteAt r 12).toNat < 64 ∧ (byteAt r 26).toNat = 0 := by
  have zero : byteAt r 26 = 0 ↔ (byteAt r 26).toNat = 0 := by
    rw [← BitVec.toNat_inj]; rfl
  simp only [slotReservedOk, Bool.and_eq_true, decide_eq_true_eq, bitsAt_six_two_eq_zero, zero, and_assoc]

theorem slotFieldsOk_iff (mask : Word) (r : List Byte) : slotFieldsOk mask r = true ↔
    (mask.getLsbD 10 = true → (byteAt r 0).toNat / 16 % 4 ≠ 3)
    ∧ (mask.getLsbD 2 = true → fieldAt r 5 2 ≠ 0)
    ∧ (mask.getLsbD 3 = true → fieldAt r 7 3 ≤ 1048575)
    ∧ (mask.getLsbD 4 = true → (byteAt r 10).toNat ≤ 127)
    ∧ (mask.getLsbD 5 = true → (byteAt r 11).toNat % 64 ≠ 0 ∧ (byteAt r 11).toNat % 64 ≠ 63)
    ∧ (mask.getLsbD 7 = true → fieldAt r 13 2 ≠ 0)
    ∧ (mask.getLsbD 16 = true → (byteAt r 21).toNat ≤ 15) := by
  have width : ∀ k : BitVec 6, (byteAt r 11).setWidth 6 = k ↔ (byteAt r 11).toNat % 64 = k.toNat := by
    intro k
    rw [← BitVec.toNat_inj, BitVec.toNat_setWidth]
  have tare : (BitVec.ofNat 24 (fieldAt r 7 3)).toNat = fieldAt r 7 3 :=
    Nat.mod_eq_of_lt (fieldAt_three_lt r 7)
  simp only [slotFieldsOk, Bool.and_eq_true, Bool.or_eq_true, decide_eq_true_eq, and_assoc]
  simp [SlotCfg.ofBytes, width, tare, bitsAt, imp_iff_not_or, ofNat_fieldAt_two_eq_zero]

/-- Whether the merged record may stand (R2). -/
theorem mayStand_merge_iff (mask : Word) (r : List Byte) (old : SlotCfg) :
    (SlotCfg.merge mask (SlotCfg.ofBytes r) old).mayStand = true ↔
      ((if mask.getLsbD 0 = true then (byteAt r 0).toNat % 2 = 1 else old.enabled = true) →
        (if mask.getLsbD 2 = true then fieldAt r 5 2 else old.unitWeight.toNat) ≠ 0
        ∧ (if mask.getLsbD 5 = true then (byteAt r 11).toNat % 64 else old.width.toNat) ≠ 0
        ∧ (if mask.getLsbD 7 = true then fieldAt r 13 2 else old.band.toNat) ≠ 0) := by
  have enabled : (SlotCfg.merge mask (SlotCfg.ofBytes r) old).enabled = true ↔
      if mask.getLsbD 0 = true then (byteAt r 0).toNat % 2 = 1 else old.enabled = true := by
    simp only [SlotCfg.merge, SlotCfg.ofBytes]
    split
    · simp [BitVec.getLsbD, Nat.testBit_zero]
    · rfl
  have unit := masked_eq_zero_iff (y := old.unitWeight) (mask.getLsbD 2 = true) (ofNat_fieldAt_two_eq_zero r 5)
  have band := masked_eq_zero_iff (y := old.band) (mask.getLsbD 7 = true) (ofNat_fieldAt_two_eq_zero r 13)
  have width := masked_eq_zero_iff (x := (byteAt r 11).setWidth 6) (y := old.width) (mask.getLsbD 5 = true)
    (bitVec_eq_zero_iff _)
  rw [BitVec.toNat_setWidth] at width
  rw [← enabled, ne_eq, ne_eq, ne_eq, ← unit, ← band, ← width]
  simp only [SlotCfg.mayStand, Bool.or_eq_true, Bool.and_eq_true, Bool.not_eq_true', decide_eq_true_eq, and_assoc,
    ← Bool.not_eq_true, ← imp_iff_not_or]
  rfl

/-- A slot configuration write stores the merged record, adjusted, unless a check fails. -/
theorem slotWrite_eq_some_iff (mask : Word) (r : List Byte) (old c : SlotCfg) : slotWrite mask r old = some c ↔
    (slotReservedOk r = true ∧ slotFieldsOk mask r = true
      ∧ (SlotCfg.merge mask (SlotCfg.ofBytes r) old).mayStand = true)
    ∧ (SlotCfg.merge mask (SlotCfg.ofBytes r) old).adjust = c := by
  simp [slotWrite, and_assoc]

/-- The records that a slot configuration write refuses with BAD_FIELD (R2, R190). -/
theorem slotWrite_eq_none_iff (mask : Word) (r : List Byte) (old : SlotCfg) :
    slotWrite mask r old = none ↔ SlotRecordRefused mask r old := by
  have refused : slotWrite mask r old = none ↔ ¬ (slotReservedOk r = true ∧ slotFieldsOk mask r = true
      ∧ (SlotCfg.merge mask (SlotCfg.ofBytes r) old).mayStand = true) := by
    simp [slotWrite]
  rw [refused, slotReservedOk_iff, slotFieldsOk_iff, mayStand_merge_iff]
  simp only [SlotRecordRefused, not_and_or, Classical.not_imp, not_le, not_lt, ne_eq, not_not, or_assoc]

/-- Field by field, the record merged is the new one where the mask names it and the old one elsewhere (R2). -/
theorem merge_field (mask : Word) (new old : SlotCfg) (k : Nat) (hk : k < 20) :
    (SlotCfg.merge mask new old).field k = if mask.getLsbD k = true then new.field k else old.field k := by
  by_cases named : mask.getLsbD k = true
  · rw [if_pos named]
    interval_cases k <;> simp only [SlotCfg.merge, SlotCfg.field, named, if_true]
  · rw [if_neg named]
    interval_cases k <;> simp only [SlotCfg.merge, SlotCfg.field, named, Bool.false_eq_true, if_false]

/-! ## The adjustments of a stored record (R3) -/

theorem atLeastOne_ne_zero {w : Nat} (x : BitVec (w + 1)) : atLeastOne x ≠ 0 := by
  unfold atLeastOne
  split
  · exact fun e => absurd (congrArg BitVec.toNat e) (by simp)
  · assumption

theorem bitVec_ne_zero_iff {w : Nat} (x : BitVec w) : x ≠ 0 ↔ 1 ≤ x.toNat :=
  (bitVec_eq_zero_iff x).not.trans Nat.one_le_iff_ne_zero.symm

theorem storedThreshold_eq (w t : BitVec 6) : storedThreshold w t =
    if 1 ≤ w.toNat ∧ w.toNat < (if t = 0 then 1 else t).toNat then w else if t = 0 then 1 else t := by
  simp only [storedThreshold, bitVec_ne_zero_iff, atLeastOne]

/-- The threshold as stored is at most a width of at least 1 (R3). -/
theorem storedThreshold_le {w : BitVec 6} (h : 1 ≤ w.toNat) (t : BitVec 6) :
    (storedThreshold w t).toNat ≤ w.toNat := by
  rw [storedThreshold_eq]
  generalize (if t = 0 then 1 else t) = u
  split
  · exact Nat.le_refl _
  · next above => exact Nat.le_of_not_lt fun lt => above ⟨h, lt⟩

theorem storedThreshold_ne_zero (w t : BitVec 6) : storedThreshold w t ≠ 0 := by
  unfold storedThreshold
  split
  · next h => exact h.1
  · exact atLeastOne_ne_zero t

/-- The clear point as stored is at least the reorder point (R3). -/
theorem adjust_reorder_le (c : SlotCfg) : c.adjust.reorder.toNat ≤ c.adjust.clear.toNat := by
  simp only [SlotCfg.adjust]
  split
  · exact le_rfl
  · next above => exact not_lt.mp above

/-! ## Channel map records (R4) -/

theorem byteAt_eq_zero_iff (r : List Byte) (i : Nat) : byteAt r i = 0 ↔ (byteAt r i).toNat = 0 :=
  bitVec_eq_zero_iff _

/-- The low bit of a byte. -/
theorem getLsbD_zero_iff (b : Byte) : b.getLsbD 0 = true ↔ b.toNat % 2 = 1 := by
  simp [BitVec.getLsbD, Nat.testBit_zero]

theorem chanReservedOk_iff (r : List Byte) :
    chanReservedOk r = true ↔ (byteAt r 1).toNat < 16 ∧ (byteAt r 7).toNat = 0 := by
  have high : bitsAt (byteAt r 1) 4 4 = 0 ↔ (byteAt r 1).toNat < 16 := by
    have := (byteAt r 1).isLt
    simp only [bitsAt]
    omega
  simp only [chanReservedOk, Bool.and_eq_true, decide_eq_true_eq, high, byteAt_eq_zero_iff]

theorem chanFieldsOk_iff (mask : Word) (r : List Byte) : chanFieldsOk mask r = true ↔
    (mask.getLsbD 0 = true → (byteAt r 1).toNat % 2 = 0 → (byteAt r 0).toNat = 0)
    ∧ (mask.getLsbD 1 = true → (byteAt r 1).toNat / 2 % 4 ≠ 3)
    ∧ (mask.getLsbD 4 = true → fieldAt r 5 2 ≠ 0) := by
  have routed : (byteAt r 1).getLsbD 0 = true ∨ byteAt r 0 = 0 ↔
      ((byteAt r 1).toNat % 2 = 0 → (byteAt r 0).toNat = 0) := by
    rw [getLsbD_zero_iff, byteAt_eq_zero_iff]
    omega
  simp only [chanFieldsOk, Bool.and_eq_true, Bool.or_eq_true, decide_eq_true_eq, or_assoc, routed, and_assoc]
  simp [bitsAt, imp_iff_not_or]

/-- The route of the merged channel map record is a slot exactly where the record or the stored one routes. -/
theorem merge_route_isSome (mask : Word) (r : List Byte) (old : ChanMap) :
    (ChanMap.merge mask (ChanMap.ofBytes r) old).route.isSome = true ↔
      if mask.getLsbD 0 = true then (byteAt r 1).toNat % 2 = 1 else old.route.isSome = true := by
  simp only [ChanMap.merge, ChanMap.ofBytes]
  split
  · rw [← getLsbD_zero_iff]
    split
    · next set => simp [set]
    · next clear => exact iff_of_false nofun clear
  · rfl

/-- The records that a channel map write refuses with BAD_FIELD (R4, R190). -/
theorem chanWrite_eq_none_iff (mask : Word) (r : List Byte) (old : ChanMap) :
    chanWrite mask r old = none ↔ ChanRecordRefused mask r old := by
  have gain := masked_eq_zero_iff (y := old.gain) (mask.getLsbD 4 = true) (ofNat_fieldAt_two_eq_zero r 5)
  have stands : ((ChanMap.merge mask (ChanMap.ofBytes r) old).route.isNone
        || (ChanMap.merge mask (ChanMap.ofBytes r) old).gain ≠ 0) = true ↔
      ((if mask.getLsbD 0 = true then (byteAt r 1).toNat % 2 = 1 else old.route.isSome = true) →
        (if mask.getLsbD 4 = true then fieldAt r 5 2 else old.gain.toNat) ≠ 0) := by
    rw [← merge_route_isSome, Bool.or_eq_true, decide_eq_true_eq, ← Option.not_isSome, Bool.not_eq_true',
      ← Bool.not_eq_true, ← imp_iff_not_or]
    exact imp_congr_right fun _ => gain.not
  have refused : chanWrite mask r old = none ↔ ¬ (chanReservedOk r = true ∧ chanFieldsOk mask r = true
      ∧ ((ChanMap.merge mask (ChanMap.ofBytes r) old).route.isNone
        || (ChanMap.merge mask (ChanMap.ofBytes r) old).gain ≠ 0) = true) := by
    simp [chanWrite]
  rw [refused, chanReservedOk_iff, chanFieldsOk_iff, stands]
  simp only [ChanRecordRefused, not_and_or, Classical.not_imp, not_lt, ne_eq, not_not, or_assoc]

/-- A channel map write stores the merged record, which has a gain wherever it routes (R4). -/
theorem chanWrite_eq_some {mask : Word} {r : List Byte} {old m : ChanMap} (h : chanWrite mask r old = some m) :
    m = ChanMap.merge mask (ChanMap.ofBytes r) old ∧ (m.route.isSome = true → m.gain ≠ 0) := by
  unfold chanWrite at h
  dsimp only at h
  split at h
  · next ok =>
    obtain rfl := Option.some.inj h
    refine ⟨rfl, fun routed => ?_⟩
    rw [Bool.and_eq_true, Bool.or_eq_true, Option.isNone_iff_eq_none] at ok
    obtain none | gain := ok.2
    · rw [none] at routed
      cases routed
    · exact of_decide_eq_true gain
  · cases h

theorem chanMerge_field (mask : Word) (new old : ChanMap) (k : Nat) (hk : k < 5) :
    (ChanMap.merge mask new old).field k = if mask.getLsbD k = true then new.field k else old.field k := by
  by_cases named : mask.getLsbD k = true
  · rw [if_pos named]
    interval_cases k <;> simp only [ChanMap.merge, ChanMap.field, named, if_true]
  · rw [if_neg named]
    interval_cases k <;> simp only [ChanMap.merge, ChanMap.field, named, Bool.false_eq_true, if_false]

/-! ## Roster records (R6) -/

/-- A node address up to 32 names its node, 0 names none. -/
theorem nodeOfAddress_elim {a : Nat} (h : a ≤ 32) : (nodeOfAddress a).elim 0 (fun n => n.val + 1) = a := by
  unfold nodeOfAddress
  split
  · next range => exact Nat.sub_add_cancel range.1
  · next range => exact (Nat.eq_zero_of_not_pos fun pos => range ⟨pos, h⟩).symm

theorem entryWrite_eq_none_iff (mask : Word) (r : List Byte) (old : Option Node) :
    entryWrite mask r old = none ↔ EntryRefused mask r := by
  unfold entryWrite EntryRefused
  split
  · next zero =>
    obtain ⟨one, two, three⟩ := zero
    simp only [one, two, three, ne_eq, not_true_eq_false, false_or]
    split
    · next named => simp only [named, true_and, ite_eq_right_iff, reduceCtorEq, imp_false, not_le]
    · next named => simp only [named, false_and, reduceCtorEq]
  · next reserved =>
    simp only [true_iff, ne_eq]
    tauto

theorem entryWrite_eq_some {mask : Word} {r : List Byte} {old e : Option Node} (h : entryWrite mask r old = some e) :
    e.elim 0 (fun n => n.val + 1)
      = if mask.getLsbD 0 = true then (byteAt r 0).toNat else old.elim 0 fun n => n.val + 1 := by
  unfold entryWrite at h
  split at h
  · split at h
    · next named =>
      split at h
      · next small =>
        obtain rfl := Option.some.inj h
        rw [if_pos named, nodeOfAddress_elim small]
      · cases h
    · next named =>
      obtain rfl := Option.some.inj h
      rw [if_neg named]
  · cases h

theorem headerWrite_eq_none_iff (mask : Word) (r : List Byte) (old : RosterHeader) :
    headerWrite mask r old = none ↔ HeaderRefused mask r := by
  unfold headerWrite HeaderRefused
  split
  · next ok =>
    simp only [reduceCtorEq, false_iff, not_or, not_and, not_lt]
    exact ⟨not_not.mpr ok.1, ok.2.1, ok.2.2⟩
  · next bad =>
    simp only [not_and_or, Classical.not_imp, not_le, ne_eq, not_not] at bad
    simpa only [true_iff, ne_eq] using bad

theorem headerWrite_eq_some {mask : Word} {r : List Byte} {old h : RosterHeader} (w : headerWrite mask r old = some h) :
    h.length.toNat = (if mask.getLsbD 1 = true then min 128 (byteAt r 0).toNat else old.length.toNat)
    ∧ h.interleave = (if mask.getLsbD 2 = true then byteAt r 1 else old.interleave)
    ∧ h.timeout = if mask.getLsbD 3 = true then byteAt r 2 else old.timeout := by
  unfold headerWrite at w
  split at w
  · obtain rfl := Option.some.inj w
    refine ⟨?_, rfl, rfl⟩
    dsimp only
    split
    · split
      · next above => exact (min_eq_left above.le).symm
      · next below => exact (min_eq_right (not_lt.mp below)).symm
    · rfl
  · cases w

end Sys2Proof.Machine
end

section
/-!
SUPPORT. A write into a bank, table by table: the record it stores or the code it refuses with, what it leaves alone,
and how many members it leaves to a slot (R2 to R6). Settles O39 and O40.
-/

namespace Sys2Proof.Machine

/-! ## Members -/

/-- The members of a slot, channel by channel. -/
theorem members_eq (b : Bank) (n : Slot) :
    b.members n = (allChans.filter fun c => (b.map c).route = some n).map fun c => (c, b.map c) := by
  have pairs : allChans.zip b.chans.toList = allChans.map fun c => (c, b.map c) := by
    refine List.ext_getElem (by simp [allChans]) fun i h _ => ?_
    simp [allChans, Bank.map]
  unfold Bank.members
  rw [pairs, List.filter_map]
  rfl

/-- How many channels route to a slot. -/
theorem members_length (b : Bank) (n : Slot) :
    (b.members n).length = (Finset.univ.filter fun c => (b.map c).route = some n).card := by
  rw [members_eq, List.length_map]
  rfl

theorem map_set_self (b : Bank) (c : Chan) (m : ChanMap) :
    Bank.map { b with chans := b.chans.set c m } c = m := by
  simp [Bank.map]

theorem map_set_ne (b : Bank) {c d : Chan} (h : d ≠ c) (m : ChanMap) :
    Bank.map { b with chans := b.chans.set c m } d = b.map d := by
  simp [Bank.map, Fin.val_ne_of_ne (Ne.symm h)]

/-- A channel rerouted adds one member at most, and none to a slot it is not routed to anew. -/
theorem members_set_length (b : Bank) (c : Chan) (m : ChanMap) (n : Slot) :
    (Bank.members { b with chans := b.chans.set c m } n).length
      ≤ (b.members n).length + if m.route = some n ∧ (b.map c).route ≠ some n then 1 else 0 := by
  have before : ∀ d, d ≠ c → (Bank.map { b with chans := b.chans.set c m } d).route = some n →
      (b.map d).route = some n := fun d hd h => by rwa [map_set_ne b hd] at h
  rw [members_length, members_length]
  split
  · refine (Finset.card_le_card fun d hd => ?_).trans (Finset.card_insert_le c _)
    rw [Finset.mem_filter] at hd
    rw [Finset.mem_insert, Finset.mem_filter]
    by_cases e : d = c
    · exact .inl e
    · exact .inr ⟨hd.1, before d e hd.2⟩
  · next kept =>
    rw [Nat.add_zero]
    refine Finset.card_le_card fun d hd => ?_
    rw [Finset.mem_filter] at hd ⊢
    refine ⟨hd.1, ?_⟩
    by_cases e : d = c
    · subst e
      rw [map_set_self] at hd
      exact not_not.mp fun new => kept ⟨hd.2, new⟩
    · exact before d e hd.2

/-! ## Writes, table by table -/

theorem write_slotCfg (b : Bank) (n : Slot) (mask : Word) (r : List Byte) : b.write .slotCfg n.val mask r =
    match slotWrite mask r (b.cfg n) with
    | some c => .ok { b with cfgs := b.cfgs.set n c }
    | none => .error .badField := by
  unfold Bank.write
  dsimp only
  rw [dif_pos n.isLt]
  rfl

theorem write_channelMap (b : Bank) (c : Chan) (mask : Word) (r : List Byte) : b.write .channelMap c.val mask r =
    match chanWrite mask r (b.map c) with
    | some m => if memberCheck b c m.route then .ok { b with chans := b.chans.set c m } else .error .tooMany
    | none => .error .badField := by
  unfold Bank.write
  dsimp only
  rw [dif_pos c.isLt]
  rfl

theorem write_entry (b : Bank) (p : Fin 128) (mask : Word) (r : List Byte) : b.write .roster p.val mask r =
    match entryWrite mask r b.roster[p] with
    | some e => .ok { b with roster := b.roster.set p e }
    | none => .error .badField := by
  unfold Bank.write
  dsimp only
  rw [dif_pos p.isLt]
  rfl

theorem write_header (b : Bank) (mask : Word) (r : List Byte) : b.write .roster 128 mask r =
    match headerWrite mask r b.header with
    | some h => .ok { b with header := h }
    | none => .error .badField := rfl

/-- An accepted write puts one record, stored by its table's rule, in its place, and keeps the rest of the bank. -/
theorem write_eq_ok {b b' : Bank} {t : Table} {pos : Nat} {mask : Word} {r : List Byte}
    (h : b.write t pos mask r = .ok b') :
    (∃ (n : Slot) (c : SlotCfg), t = .slotCfg ∧ slotWrite mask r (b.cfg n) = some c
      ∧ b' = { b with cfgs := b.cfgs.set n c })
    ∨ (∃ (c : Chan) (m : ChanMap), t = .channelMap ∧ chanWrite mask r (b.map c) = some m
      ∧ memberCheck b c m.route = true ∧ b' = { b with chans := b.chans.set c m })
    ∨ (∃ v, b' = { b with roster := v })
    ∨ ∃ hd, headerWrite mask r b.header = some hd ∧ b' = { b with header := hd } := by
  unfold Bank.write at h
  split at h
  · split at h
    · next hp =>
      split at h
      · next c stored =>
        cases h
        exact .inl ⟨⟨pos, hp⟩, c, rfl, stored, rfl⟩
      · cases h
    · cases h
  · split at h
    · next hp =>
      split at h
      · next m stored =>
        split at h
        · next fits =>
          cases h
          exact .inr (.inl ⟨⟨pos, hp⟩, m, rfl, stored, fits, rfl⟩)
        · cases h
      · cases h
    · cases h
  · split at h
    · split at h
      · cases h
        exact .inr (.inr (.inl ⟨_, rfl⟩))
      · cases h
    · split at h
      · split at h
        · next stored =>
          cases h
          exact .inr (.inr (.inr ⟨_, stored, rfl⟩))
        · cases h
      · cases h

/-- The member check fails exactly for a fifth member (R5). -/
theorem memberCheck_eq_false_iff (b : Bank) (c : Chan) (route : Option Slot) :
    memberCheck b c route = false ↔ ∃ n, route = some n ∧ (b.map c).route ≠ some n ∧ 4 ≤ (b.members n).length := by
  cases route with
  | none => simp [memberCheck]
  | some n =>
    unfold memberCheck Bank.memberCount
    dsimp only
    rw [Bool.or_eq_false_iff, decide_eq_false_iff_not, decide_eq_false_iff_not, not_lt]
    exact ⟨fun fifth => ⟨n, rfl, fifth⟩, fun ⟨_, e, fifth⟩ => by cases e; exact fifth⟩

/-- No accepted write leaves a slot with a fifth member (R5). -/
theorem write_members_le {b b' : Bank} {t : Table} {pos : Nat} {mask : Word} {r : List Byte}
    (h : b.write t pos mask r = .ok b') (four : ∀ n, (b.members n).length ≤ 4) (n : Slot) :
    (b'.members n).length ≤ 4 := by
  obtain ⟨_, _, -, -, rfl⟩ | ⟨c, m, -, -, fits, rfl⟩ | ⟨_, rfl⟩ | ⟨_, -, rfl⟩ := write_eq_ok h
  · exact four n
  · refine (members_set_length b c m n).trans ?_
    split
    · next new =>
      by_contra full
      have fifth := (memberCheck_eq_false_iff b c m.route).mpr ⟨n, new.1, new.2, by omega⟩
      rw [fits] at fifth
      cases fifth
    · exact four n
  · exact four n
  · exact four n

/-! ## O39 and O40 -/

/-- Settles O39. -/
theorem storedSlotRecordIsAdjusted : Obligations.StoredSlotRecordIsAdjusted := by
  refine ⟨fun mask r old c stored => ?_, fun m => ⟨fun w t => ?_, fun p q => ?_⟩, fun b b' n mask r written => ?_⟩
  · obtain ⟨-, rfl⟩ := (slotWrite_eq_some_iff mask r old c).mp stored
    refine ⟨?_, fun width => storedThreshold_le width _, adjust_reorder_le _⟩
    simp only [SlotCfg.adjust, storedThreshold_eq, atLeastOne]
  · simp only [SlotCfg.adjust, w, t]
    decide
  · simp only [SlotCfg.adjust, p, q]
    decide
  · rw [write_slotCfg] at written
    split at written
    · next c stored =>
      cases written
      have self : Bank.cfg { b with cfgs := b.cfgs.set n c } n = c := by simp [Bank.cfg]
      refine ⟨by rw [stored, self], ?_, fun m hm => ?_, rfl, rfl, rfl⟩
      · simp [Bank.read, Bank.cfg]
      · simp [Bank.cfg, Fin.val_ne_of_ne (Ne.symm hm)]
    · cases written

/-- Settles O40: the check refuses a fifth member, and every accepted write has passed it. -/
theorem noWriteLeavesAFifthMember : Obligations.NoWriteLeavesAFifthMember := by
  refine ⟨fun b c n mask r m stored toward new full => ?_, fun b b' t pos mask r h four => write_members_le h four⟩
  rw [write_channelMap, stored]
  have fifth := (memberCheck_eq_false_iff b c m.route).mpr ⟨n, toward, new, full⟩
  simp [fifth]

end Sys2Proof.Machine
end

section
/-!
PROOFS. The invariants of the tables, the sessions, the trunk and the lines: each holds of every reset and is kept by
every elementary move and by every effect of a command. Settles O56 and O59.
-/

namespace Sys2Proof.Machine

/-- A property that every elementary move keeps is kept by a run of them. -/
theorem Moves.keep {P : State → Prop} (step : ∀ {s t : State}, Move s t → P s → P t) {s t : State} (h : Moves s t)
    (hs : P s) : P t := by
  induction h with
  | refl => exact hs
  | tail _ move ih => exact step move ih

/-! ## Reset values -/

theorem cfgOk_reset : CfgOk SlotCfg.reset := by
  unfold CfgOk
  decide

theorem cfg_reset (n : Slot) : Bank.reset.cfg n = SlotCfg.reset := by
  simp [Bank.cfg, Bank.reset]

theorem map_reset (c : Chan) : Bank.reset.map c = ChanMap.reset := by
  simp [Bank.map, Bank.reset]

theorem members_reset (n : Slot) : Bank.reset.members n = [] := by
  rw [members_eq, List.map_eq_nil_iff, List.filter_eq_nil_iff]
  intro c _
  rw [map_reset]
  nofun

theorem bankOk_reset : BankOk Bank.reset := by
  refine ⟨fun n => ?_, fun n => ?_, fun c routed => ?_, by decide, by decide, by decide⟩
  · rw [cfg_reset]
    exact cfgOk_reset
  · rw [members_reset]
    exact Nat.zero_le _
  · rw [map_reset] at routed
    cases routed

theorem slot_powered (cause : ResetCause) (strap : BitVec 3) (cs : List Instr) (n : Slot) :
    (State.powered cause strap cs).slot n = SlotLive.reset := by
  simp [State.slot, State.powered]

theorem chan_powered (cause : ResetCause) (strap : BitVec 3) (cs : List Instr) (c : Chan) :
    (State.powered cause strap cs).chan c = ChanRec.reset := by
  simp [State.chan, State.powered]

theorem session_powered (cause : ResetCause) (strap : BitVec 3) (cs : List Instr) (id : SessionId) :
    (State.powered cause strap cs).session id = none := by
  simp [State.session, State.powered]

theorem node_powered (cause : ResetCause) (strap : BitVec 3) (cs : List Instr) (n : Node) :
    (State.powered cause strap cs).node n = NodeRec.reset := by
  simp [State.node, State.powered, Trunk.reset]

theorem storeOk_powered (cause : ResetCause) (strap : BitVec 3) (cs : List Instr) :
    StoreOk (State.powered cause strap cs) :=
  ⟨bankOk_reset, bankOk_reset, fun r h => by cases h⟩

theorem sessionsOk_powered (cause : ResetCause) (strap : BitVec 3) (cs : List Instr) :
    SessionsOk (State.powered cause strap cs) := by
  refine ⟨fun i r h => ?_, fun i j r q n h => ?_⟩
  · rw [session_powered] at h
    cases h
  · rw [session_powered] at h
    cases h

theorem motionListOk_nil {t : Trunk} (list : t.motionList = []) (ptr : t.motionPtr = 0) : MotionListOk t := by
  refine ⟨?_, ?_, .inr ⟨list, ptr⟩⟩
  · rw [list]
    exact Nat.zero_le _
  · rw [list]
    exact List.nodup_nil

theorem streakOk_reset : NodeRec.reset.StreakOk := ⟨Nat.zero_le _, fun _ => Nat.zero_lt_succ _⟩

theorem trunkOk_powered (cause : ResetCause) (strap : BitVec 3) (cs : List Instr) :
    TrunkOk (State.powered cause strap cs) := by
  refine ⟨motionListOk_nil rfl rfl, Nat.zero_le _, Nat.zero_le _, Nat.zero_le _, nofun, fun n => ?_, nofun⟩
  rw [node_powered]
  exact streakOk_reset

theorem countersOk_zero : CountersOk Counters.zero := by
  unfold CountersOk
  decide

theorem linkOk_powered (cause : ResetCause) (strap : BitVec 3) (cs : List Instr) :
    LinkOk (State.powered cause strap cs) :=
  ⟨Nat.zero_le _, Nat.zero_le _, nofun, countersOk_zero, Nat.zero_lt_succ _⟩

theorem alertsOk_powered (cause : ResetCause) (strap : BitVec 3) (cs : List Instr) :
    AlertsOk (State.powered cause strap cs) := by
  have none : ∀ n k, ((State.powered cause strap cs).slot n).held ≠ some k := fun n k held => by
    rw [slot_powered] at held
    cases held
  exact ⟨⟨Nat.zero_le _, List.nodup_nil, .nil, fun e he => absurd he List.not_mem_nil⟩,
    fun n k held => absurd held (none n k), fun e he => absurd he List.not_mem_nil,
    fun n k held => absurd held (none n k)⟩

theorem slotsOk_powered (cause : ResetCause) (strap : BitVec 3) (cs : List Instr) :
    SlotsOk (State.powered cause strap cs) := by
  intro n
  rw [slot_powered]
  exact ⟨⟨by decide, by decide⟩, ⟨nofun, nofun⟩, ⟨nofun, by decide, nofun, by decide⟩, fun _ => rfl⟩

theorem stockOk_powered (cause : ResetCause) (strap : BitVec 3) (cs : List Instr) :
    StockOk (State.powered cause strap cs) := by
  intro n
  rw [slot_powered]
  exact ⟨nofun, fun _ => ⟨rfl, rfl, rfl, rfl, rfl⟩⟩

/-- Settles O56: the reset state is the part after a power-on, which meets every invariant. -/
theorem resetMeetsEveryInvariant : Obligations.ResetMeetsEveryInvariant :=
  ⟨alertsOk_powered _ _ _, slotsOk_powered _ _ _, stockOk_powered _ _ _, storeOk_powered _ _ _,
    sessionsOk_powered _ _ _, trunkOk_powered _ _ _, linkOk_powered _ _ _⟩

/-! ## The table store -/

/-- A stored slot configuration record keeps its form (R2, R3). -/
theorem slotWrite_cfgOk {mask : Word} {r : List Byte} {old c : SlotCfg} (stored : slotWrite mask r old = some c)
    (ok : CfgOk old) : CfgOk c := by
  obtain ⟨⟨-, fields, stands⟩, rfl⟩ := (slotWrite_eq_some_iff mask r old c).mp stored
  obtain ⟨-, -, tare, tolerance, -, -, -⟩ := (slotFieldsOk_iff mask r).mp fields
  obtain ⟨-, -, -, oldTare, oldTolerance⟩ := ok
  refine ⟨fun width => storedThreshold_le ((bitVec_ne_zero_iff _).mp width) _, adjust_reorder_le _,
    fun enabled => ?_, ?_, ?_⟩
  · generalize SlotCfg.merge mask (SlotCfg.ofBytes r) old = m at enabled stands
    have enabled : m.enabled = true := enabled
    simp only [SlotCfg.mayStand, enabled, Bool.not_true, Bool.false_or, Bool.and_eq_true, decide_eq_true_eq] at stands
    obtain ⟨⟨unit, width⟩, band⟩ := stands
    exact ⟨unit, width, band, storedThreshold_ne_zero _ _, atLeastOne_ne_zero _, atLeastOne_ne_zero _,
      atLeastOne_ne_zero _⟩
  · simp only [SlotCfg.adjust, SlotCfg.merge]
    split
    · next named => exact (Nat.mod_le _ _).trans (tare named)
    · exact oldTare
  · simp only [SlotCfg.adjust, SlotCfg.merge]
    split
    · next named => exact tolerance named
    · exact oldTolerance

/-- A stored roster header keeps its ranges (R6). -/
theorem headerWrite_ok {mask : Word} {r : List Byte} {old h : RosterHeader} (w : headerWrite mask r old = some h)
    (length : old.length.toNat ≤ 128) (interleave : old.interleave.toNat ≤ 15) (timeout : old.timeout ≠ 0) :
    h.length.toNat ≤ 128 ∧ h.interleave.toNat ≤ 15 ∧ h.timeout ≠ 0 := by
  have accepted : ¬ HeaderRefused mask r := fun refused => by
    rw [(headerWrite_eq_none_iff mask r old).mpr refused] at w
    cases w
  simp only [HeaderRefused, not_or, not_and, not_lt] at accepted
  obtain ⟨-, newInterleave, newTimeout⟩ := accepted
  obtain ⟨len, int, time⟩ := headerWrite_eq_some w
  refine ⟨?_, ?_, ?_⟩
  · rw [len]
    split
    · exact Nat.min_le_left _ _
    · exact length
  · rw [int]
    split
    · next named => exact newInterleave named
    · exact interleave
  · rw [time]
    split
    · next named => exact newTimeout named
    · exact timeout

/-- Every accepted write keeps the form of its bank (R2 to R6). -/
theorem write_bankOk {b b' : Bank} {t : Table} {pos : Nat} {mask : Word} {r : List Byte}
    (h : b.write t pos mask r = .ok b') (ok : BankOk b) : BankOk b' := by
  have four := write_members_le h ok.2.1
  obtain ⟨cfgs, -, gains, length, interleave, timeout⟩ := ok
  obtain ⟨n, c, -, stored, rfl⟩ | ⟨c, m, -, stored, -, rfl⟩ | ⟨_, rfl⟩ | ⟨hd, stored, rfl⟩ := write_eq_ok h
  · refine ⟨fun k => ?_, four, gains, length, interleave, timeout⟩
    by_cases e : k = n
    · subst e
      simpa [Bank.cfg] using slotWrite_cfgOk stored (cfgs k)
    · simpa [Bank.cfg, Fin.val_ne_of_ne (Ne.symm e)] using cfgs k
  · refine ⟨cfgs, four, fun d routed => ?_, length, interleave, timeout⟩
    by_cases e : d = c
    · subst e
      rw [map_set_self] at routed ⊢
      exact (chanWrite_eq_some stored).2 routed
    · rw [map_set_ne b e] at routed ⊢
      exact gains d routed
  · exact ⟨cfgs, four, gains, length, interleave, timeout⟩
  · obtain ⟨length, interleave, timeout⟩ := headerWrite_ok stored length interleave timeout
    exact ⟨cfgs, four, gains, length, interleave, timeout⟩

theorem StoreOk.bank {s : State} (h : StoreOk s) (id : BankId) : BankOk (s.store.bank id) := by
  obtain ⟨a, b, -⟩ := h
  cases id
  · exact a
  · exact b

theorem storeOk_of_bank {s : State} (banks : ∀ id, BankOk (s.store.bank id))
    (pending : ∀ r, s.store.requested = some r → s.store.serving = some r.other) : StoreOk s :=
  ⟨banks .A, banks .B, pending⟩

theorem bankOk_acting {s : State} (h : StoreOk s) : BankOk s.acting := by
  unfold State.acting
  split
  · exact h.bank _
  · exact bankOk_reset

theorem Move.storeOk {s t : State} (h : Move s t) (ok : StoreOk s) : StoreOk t := by
  have banks : ∀ id, BankOk (t.store.bank id) := fun id => by
    rw [h.steady.bank]
    exact ok.bank id
  refine storeOk_of_bank banks ?_
  obtain ⟨-, -, pending⟩ := ok
  cases h with
  | slot h => cases h <;> exact pending
  | switched target => nofun
  | pend target other =>
    intro r hr
    obtain rfl := Option.some.inj hr
    exact other
  | cancel => nofun
  | _ => exact pending

theorem LoadMove.storeOk {bank : BankId} {s t : State} (h : LoadMove bank s t) (ok : StoreOk s) : StoreOk t := by
  cases h with
  | denied src code n => exact ok
  | written t pos mask r b written =>
    have new := write_bankOk written (ok.bank bank)
    obtain ⟨okA, okB, pending⟩ := ok
    cases bank
    · exact ⟨new, okB, pending⟩
    · exact ⟨okA, new, pending⟩

theorem LoadMoves.storeOk {bank : BankId} {s t : State} (h : LoadMoves bank s t) (ok : StoreOk s) : StoreOk t := by
  induction h with
  | refl => exact ok
  | tail _ move ih => exact move.storeOk ih

theorem Effect.storeOk {c : Instr} {s t : State} (h : Effect c s t) (ok : StoreOk s) : StoreOk t := by
  cases h with
  | reset cause strap row => exact storeOk_powered _ _ _
  | resetPoint =>
    obtain ⟨okA, okB, -⟩ := ok
    exact ⟨okA, okB, nofun⟩
  | tick o row time phase h => exact Moves.keep Move.storeOk h ok
  | load bank tag code status results serving requested h => exact (LoadMoves.storeOk h ok :)
  | copy id tag code status results serving =>
    obtain ⟨okA, okB, pending⟩ := ok
    cases id
    · exact ⟨okA, okA, pending⟩
    · exact ⟨okB, okB, pending⟩
  | moves h => exact Moves.keep Move.storeOk h ok

/-! ## The sessions -/

/-- Changes that open no session keep the open ones apart. -/
theorem sessionsOk_of_ranges {s t : State} (ranges : ∀ i r, t.session i = some r →
    ∃ q, s.session i = some q ∧ q.first = r.first ∧ q.last = r.last) (ok : SessionsOk s) : SessionsOk t := by
  obtain ⟨ordered, apart⟩ := ok
  refine ⟨fun i r hr => ?_, fun i j r q n hr hq rn qn => ?_⟩
  · obtain ⟨r', hr', first, last⟩ := ranges i r hr
    rw [← first, ← last]
    exact ordered i r' hr'
  · obtain ⟨r', hr', first, last⟩ := ranges i r hr
    obtain ⟨q', hq', first', last'⟩ := ranges j q hq
    refine apart i j r' q' n hr' hq' ?_ ?_
    · unfold Session.covers
      rw [first, last]
      exact rn
    · unfold Session.covers
      rw [first', last']
      exact qn

theorem SlotMove.sessionsOk {s t : State} (h : SlotMove s t) (ok : SessionsOk s) : SessionsOk t := by
  cases h with
  | units id k =>
    refine sessionsOk_of_ranges (fun i r hr => ?_) ok
    rw [State.session_setSession] at hr
    split at hr
    · next e =>
      subst e
      obtain ⟨q, hq, rfl⟩ := Option.map_eq_some_iff.mp hr
      exact ⟨q, hq, rfl, rfl⟩
    · exact ⟨r, hr, rfl, rfl⟩
  | free id =>
    refine sessionsOk_of_ranges (fun i r hr => ?_) ok
    rw [State.session_setSession] at hr
    split at hr
    · cases hr
    · exact ⟨r, hr, rfl, rfl⟩
  | _ => exact ok

/-- Two ranges with a slot in common overlap. -/
theorem overlap_of_covers {r q : Session} {n : Slot} (hr : r.covers n = true) (hq : q.covers n = true) :
    q.first ≤ r.last ∧ r.first ≤ q.last := by
  simp only [Session.covers, Bool.and_eq_true, decide_eq_true_eq] at hr hq
  exact ⟨hq.1.trans hr.2, hr.1.trans hq.2⟩

theorem Move.sessionsOk {s t : State} (h : Move s t) (ok : SessionsOk s) : SessionsOk t := by
  cases h with
  | slot h => exact h.sessionsOk ok
  | opens id r ordered apart =>
    obtain ⟨old, disjoint⟩ := ok
    refine ⟨fun i q hq => ?_, fun i j p q n hp hq pn qn => ?_⟩
    · rw [State.session_setSession] at hq
      split at hq
      · obtain rfl := Option.some.inj hq
        exact ordered
      · exact old i q hq
    · rw [State.session_setSession] at hp hq
      split at hp
      · next ei =>
        obtain rfl := Option.some.inj hp
        split at hq
        · next ej => exact ei.trans ej.symm
        · exact absurd (overlap_of_covers pn qn) (apart j q hq)
      · split at hq
        · obtain rfl := Option.some.inj hq
          exact absurd (overlap_of_covers qn pn) (apart i p hp)
        · exact disjoint i j p q n hp hq pn qn
  | _ => exact ok

theorem sessionsOk_congr {s t : State} (same : t.sessions = s.sessions) (ok : SessionsOk s) : SessionsOk t :=
  sessionsOk_of_ranges (fun i r hr => ⟨r, by unfold State.session at hr ⊢; rw [← same]; exact hr, rfl, rfl⟩) ok

theorem Effect.sessionsOk {c : Instr} {s t : State} (h : Effect c s t) (ok : SessionsOk s) : SessionsOk t := by
  cases h with
  | reset cause strap row => exact sessionsOk_powered _ _ _
  | resetPoint => exact sessionsOk_congr rfl (sessionsOk_powered .power 0 [])
  | tick o row time phase h => exact Moves.keep Move.sessionsOk h ok
  | load bank tag code status results serving requested h => exact sessionsOk_congr (LoadMoves.frame h).sessions ok
  | copy id tag code status results serving => exact ok
  | moves h => exact Moves.keep Move.sessionsOk h ok

/-! ## The trunk controller -/

/-- A node that leaves the motion list leaves the pointer at a node still listed, or at 0 (R150). -/
theorem motionListOk_dropNode {t : Trunk} (node : Node) (listed : node ∈ t.motionList) (ok : MotionListOk t) :
    MotionListOk (t.dropNode node) := by
  obtain ⟨room, nodup, -⟩ := ok
  have length := List.length_erase_of_mem listed
  have pos := List.length_pos_of_mem listed
  refine ⟨?_, nodup.erase node, ?_⟩
  · exact (List.length_erase_le).trans room
  · show pointerAfterLeave t.motionPtr (t.motionList.idxOf node) t.motionList.length
        < (t.motionList.erase node).length
      ∨ t.motionList.erase node = []
        ∧ pointerAfterLeave t.motionPtr (t.motionList.idxOf node) t.motionList.length = 0
    rw [← List.length_eq_zero_iff, length]
    unfold pointerAfterLeave
    dsimp only
    generalize (if t.motionList.idxOf node < t.motionPtr then t.motionPtr - 1 else t.motionPtr) = p
    split <;> omega

theorem SlotMove.trunkOk {s t : State} (h : SlotMove s t) (ok : TrunkOk s) : TrunkOk t := by
  cases h with
  | offer node new room =>
    obtain ⟨⟨_, nodup, ptr⟩, rest⟩ := ok
    refine ⟨⟨?_, ?_, ?_⟩, rest⟩
    · rw [State.modTrunk_trunk, List.length_append]
      exact room
    · rw [State.modTrunk_trunk, List.nodup_append_comm, List.singleton_append]
      exact List.nodup_cons.mpr ⟨new, nodup⟩
    · refine .inl ?_
      rw [State.modTrunk_trunk, List.length_append]
      obtain ptr | ⟨_, ptr⟩ := ptr
      · exact ptr.trans (Nat.lt_succ_self _)
      · simp [ptr]
  | drop node listed =>
    obtain ⟨motion, rest⟩ := ok
    exact ⟨motionListOk_dropNode node listed motion, rest⟩
  | _ => exact ok

theorem Move.trunkOk {s t : State} (h : Move s t) (store : StoreOk s) (ok : TrunkOk s) : TrunkOk t := by
  have length : s.acting.length ≤ 128 := (bankOk_acting store).2.2.2.1
  obtain ⟨motion, forwards, interleave, ptr, capture, nodes, quiet⟩ := ok
  cases h with
  | slot h => exact h.trunkOk ⟨motion, forwards, interleave, ptr, capture, nodes, quiet⟩
  | nodes v kept => exact ⟨motion, forwards, interleave, ptr, capture, kept nodes, quiet⟩
  | trunkCapture c kept => exact ⟨motion, forwards, interleave, ptr, kept capture, nodes, quiet⟩
  | rosterPtr p below =>
    refine ⟨motion, forwards, interleave, ?_, capture, nodes, quiet⟩
    rw [State.modTrunk_trunk]
    dsimp only
    omega
  | interleave => exact ⟨motion, forwards, satInc_le _ _, ptr, capture, nodes, quiet⟩
  | poll txn tag m silent =>
    obtain ⟨room, nodup, at_⟩ := motion
    refine ⟨⟨room, nodup, ?_⟩, forwards, ?_, ptr, capture, nodes, fun listening => ?_⟩
    · rw [State.modTrunk_trunk]
      dsimp only
      rw [← List.length_eq_zero_iff] at at_ ⊢
      unfold nextPointer
      split
      · split <;> omega
      · exact at_
    · rw [State.modTrunk_trunk]
      dsimp only
      split
      · exact Nat.zero_le _
      · exact interleave
    · rw [State.modTrunk_trunk] at listening
      dsimp only at listening
      rw [silent] at listening
      cases listening
  | forward txn rest silent fits =>
    refine ⟨motion, fits.trans forwards, interleave, ptr, capture, nodes, fun listening => ?_⟩
    rw [State.modTrunk_trunk] at listening
    dsimp only at listening
    rw [silent] at listening
    cases listening
  | endTxn => exact ⟨motion, forwards, interleave, ptr, capture, nodes, fun _ => rfl⟩
  | window txn inFlight =>
    exact ⟨motion, forwards, interleave, ptr, capture, nodes, fun listening => absurd (quiet listening) inFlight⟩
  | listened => exact ⟨motion, forwards, interleave, ptr, capture, nodes, nofun⟩
  | join f room =>
    refine ⟨motion, ?_, interleave, ptr, capture, nodes, quiet⟩
    rw [State.modTrunk_trunk, List.length_append]
    exact room
  | switched target => exact ⟨motionListOk_nil rfl rfl, forwards, interleave, Nat.zero_le _, capture, nodes, quiet⟩
  | _ => exact ⟨motion, forwards, interleave, ptr, capture, nodes, quiet⟩

theorem trunkOk_congr {s t : State} (same : t.trunk = s.trunk) (ok : TrunkOk s) : TrunkOk t := by
  unfold TrunkOk State.node at *
  rw [same]
  exact ok

theorem Effect.trunkOk {c : Instr} {s t : State} (h : Effect c s t) (store : StoreOk s) (ok : TrunkOk s) :
    TrunkOk t := by
  have both : ∀ {s t : State}, Move s t → StoreOk s ∧ TrunkOk s → StoreOk t ∧ TrunkOk t :=
    fun h ok => ⟨h.storeOk ok.1, h.trunkOk ok.1 ok.2⟩
  cases h with
  | reset cause strap row => exact trunkOk_powered _ _ _
  | resetPoint =>
    obtain ⟨motion, forwards, interleave, ptr, capture, nodes, -⟩ := trunkOk_powered .power 0 []
    exact ⟨motion, forwards, interleave, ptr, capture, nodes, fun _ => rfl⟩
  | tick o row time phase h => exact (Moves.keep both h ⟨store, ok⟩).2
  | load bank tag code status results serving requested h => exact trunkOk_congr (LoadMoves.frame h).trunk ok
  | copy id tag code status results serving => exact ok
  | moves h => exact (Moves.keep both h ⟨store, ok⟩).2

/-! ## The lines -/

theorem SlotMove.linkOk {s t : State} (h : SlotMove s t) (ok : LinkOk s) : LinkOk t := by
  cases h with
  | queueOverflow =>
    obtain ⟨requests, returns, capture, counters, phase⟩ := ok
    exact ⟨requests, returns, capture, by simp_all [CountersOk], phase⟩
  | motionOverflow =>
    obtain ⟨requests, returns, capture, counters, phase⟩ := ok
    exact ⟨requests, returns, capture, by simp_all [CountersOk], phase⟩
  | _ => exact ok

theorem Move.linkOk {s t : State} (h : Move s t) (ok : LinkOk s) : LinkOk t := by
  obtain ⟨requests, returns, capture, counters, phase⟩ := ok
  cases h with
  | slot h => exact h.linkOk ⟨requests, returns, capture, counters, phase⟩
  | link f fits => exact ⟨requests, fits returns, capture, counters, phase⟩
  | mgmt f fits same =>
    refine ⟨fits requests, returns, capture, ?_, phase⟩
    rw [State.modMgmt_mgmt, same]
    exact counters
  | counters f kept => exact ⟨requests, returns, capture, kept counters, phase⟩
  | capture c kept => exact ⟨requests, returns, kept capture, counters, phase⟩
  | zones f unlocked same =>
    refine ⟨requests, returns, ?_, counters, phase⟩
    rw [State.modZones_zones, same]
    exact capture
  | _ => exact ⟨requests, returns, capture, counters, phase⟩

theorem LoadMoves.linkOk {bank : BankId} {s t : State} (h : LoadMoves bank s t) (ok : LinkOk s) : LinkOk t := by
  induction h with
  | refl => exact ok
  | tail _ move ih =>
    cases move with
    | denied src code n => exact Moves.keep Move.linkOk (denial_move _ src code n) ih
    | written t pos mask r b h => exact ih

theorem Effect.linkOk {c : Instr} {s t : State} (h : Effect c s t) (ok : LinkOk s) : LinkOk t := by
  have dropped := Moves.keep Move.linkOk (dropRequest_move s) ok
  cases h with
  | reset cause strap row => exact linkOk_powered _ _ _
  | resetPoint =>
    obtain ⟨-, -, capture, counters, phase⟩ := ok
    exact ⟨Nat.zero_le _, Nat.zero_le _, capture, counters, phase⟩
  | tick o row time phase h =>
    obtain ⟨requests, returns, capture, counters, -⟩ := ok
    exact Moves.keep Move.linkOk h ⟨requests, returns, capture, counters, phase⟩
  | load bank tag code status results serving requested h =>
    exact Moves.keep Move.linkOk (respond_move _ _ _ _ _) (LoadMoves.linkOk h dropped)
  | copy id tag code status results serving => exact Moves.keep Move.linkOk (respond_move _ _ _ _ _) (dropped :)
  | moves h => exact Moves.keep Move.linkOk h ok

/-- Settles O59: a step idles or has the effect of its command, and every effect keeps each invariant. -/
theorem everyStepKeepsTablesSessionsAndLines : Obligations.EveryStepKeepsTablesSessionsAndLines := by
  refine ⟨fun s t ok h => ?_, fun s t ok h => ?_, fun s t store ok h => ?_, fun s t ok h => ?_⟩
  · obtain rfl | ⟨c, rest, -, effect⟩ := step_cases h
    · exact ok
    · exact effect.storeOk ok
  · obtain rfl | ⟨c, rest, -, effect⟩ := step_cases h
    · exact ok
    · exact effect.sessionsOk ok
  · obtain rfl | ⟨c, rest, -, effect⟩ := step_cases h
    · exact ok
    · exact effect.trunkOk store ok
  · obtain rfl | ⟨c, rest, -, effect⟩ := step_cases h
    · exact ok
    · exact effect.linkOk ok

end Sys2Proof.Machine
end

section
/-!
PROOFS. The resets, and the one-second tick that ends no minute. Settles O2, O3 and O4.
-/

namespace Sys2Proof.Machine

/-! ## Resets -/

theorem entry_reset (p : Nat) : Bank.reset.entry p = none := by
  unfold Bank.entry Bank.reset
  dsimp only
  rw [Vector.toList_replicate, List.getD_eq_getElem?_getD, List.getElem?_getD_replicate_default_eq]

/-- Settles O2: both rows set the part to `State.powered`. -/
theorem powerOnAndPinResetSetEveryBlock : Obligations.PowerOnAndPinResetSetEveryBlock := by
  intro strap s
  refine ⟨_, _, rfl, rfl, rfl, rfl, fun v hv => ?_⟩
  obtain ⟨cause, rfl⟩ : ∃ cause, v = State.powered cause strap s.pending := by
    rw [List.mem_pair] at hv
    exact hv.elim (fun e => ⟨_, e⟩) fun e => ⟨_, e⟩
  refine ⟨rfl, rfl, rfl, rfl, rfl, fun b hb => ?_, chan_powered _ _ _, slot_powered _ _ _, session_powered _ _ _, rfl,
    fun z hz => ?_, fun r hr => ?_, rfl, rfl, rfl, rfl, rfl, rfl, rfl, rfl, rfl⟩
  · obtain rfl : b = Bank.reset := by
      rw [List.mem_pair] at hb
      exact hb.elim id id
    refine ⟨fun n => ?_, map_reset, entry_reset, rfl⟩
    rw [cfg_reset]
    exact ⟨rfl, rfl, rfl⟩
  · obtain rfl : z = Zone.reset := List.eq_of_mem_replicate hz
    exact ⟨rfl, rfl, fun g hg => List.eq_of_mem_replicate hg⟩
  · exact List.eq_of_mem_replicate hr

/-- Settles O3. -/
theorem resetPointSetsSoftResetValues : Obligations.ResetPointSetsSoftResetValues := by
  intro s f sending
  have atEnd : s.atResetPoint = true := by
    unfold State.atResetPoint
    rw [sending]
    rfl
  refine ⟨s.afterSoftReset, ?_, ?_, ?_⟩
  · show Host.Outcome.next (if s.atResetPoint then s.afterSoftReset else s) = _
    rw [if_pos atEnd]
  · show Host.Outcome.next (if s.atResetPoint then s.afterSoftReset else _) = _
    rw [if_pos atEnd]
  · unfold State.afterSoftReset State.acting
    rcases s.store.serving with _ | b <;> rfl

/-! ## The one-second tick -/

/-- A deadline up to 2^31 - 1 minutes past is reached (R20). -/
theorem reached_past (now : Word) {k : Nat} (h : k < 2 ^ 31) : reached now (now - BitVec.ofNat 32 k) = true := by
  unfold reached
  rw [sub_sub_cancel, BitVec.toNat_ofNat]
  exact decide_eq_true ((Nat.mod_le _ _).trans_lt h)

/-- A deadline up to 2^31 minutes ahead is not reached (R20). -/
theorem reached_ahead (now : Word) {k : Nat} (pos : 0 < k) (h : k ≤ 2 ^ 31) :
    reached now (now + BitVec.ofNat 32 k) = false := by
  unfold reached
  rw [sub_add_cancel_left, BitVec.toNat_neg, BitVec.toNat_ofNat, decide_eq_false_iff_not]
  omega

/-- Settles O4. -/
theorem timeBaseCountsSecondsAndComparesDeadlines : Obligations.TimeBaseCountsSecondsAndComparesDeadlines := by
  refine ⟨fun o s phase => ?_, fun now k => ⟨reached_past now, fun h => reached_ahead now h.1 h.2⟩⟩
  have notDue : s.minuteDue = false := decide_eq_false (by omega)
  constructor
  · show Host.Outcome.next (tick o s) = _
    unfold tick secondTick
    simp [notDue]
  · show Host.Outcome.next (if s.minuteDue then tick o s else s) = _
    simp [notDue]

end Sys2Proof.Machine
end

section
/-!
SUPPORT. How a request that is taken reads when it is refused, denied or answered, and the codes of tables and banks.
Settles O44, O45 and O49.
-/

namespace Sys2Proof.Machine

variable {s : State} {f : Frame} {src : Source} {code : Byte} {args : List Byte}

/-! ## Answers -/

/-- A request that is refused, or answered without results and without effect. -/
theorem takeRequest_plain (h : Taking s f src code args) {k : Source → List Byte → State → Answer} {status : Status}
    (hk : k src args s.dropRequest = .plain status s.dropRequest) :
    takeRequest code k s = s.answered f code status [] := by
  rw [takeRequest_of_taking h, hk]
  rfl

/-- A request that is denied. -/
theorem takeRequest_denied (h : Taking s f src code args) {k : Source → List Byte → State → Answer} {n : Option Slot}
    (hk : k src args s.dropRequest = .denied src code n s.dropRequest) :
    takeRequest code k s = (s.denial src code n).answered f code .denied [] := by
  rw [takeRequest_of_taking h, hk]
  rfl

/-- A request that brings no decision of the arbiter. -/
theorem takeRequest_answer (h : Taking s f src code args) {k : Source → List Byte → State → Answer} {status : Status}
    {results : List Byte} {t : State}
    (hk : k src args s.dropRequest = { status := status, results := results, state := t }) :
    takeRequest code k s = t.respond f.tag code status results := by
  rw [takeRequest_of_taking h, hk]
  rfl

/-! ## Codes -/

theorem tableOfCode_eq_none_iff (a : Byte) : tableOfCode a = none ↔ ¬ a.toNat ≤ 2 := by
  unfold tableOfCode
  rcases a.toNat with _ | _ | _ | k <;> simp

theorem bankOfCode_eq_some_iff (b : Byte) (id : BankId) : bankOfCode b = some id ↔ b = bankCode (some id) := by
  unfold bankOfCode
  rw [← BitVec.toNat_inj]
  cases id <;> split <;> simp_all [bankCode]

theorem bankOfCode_eq_none_iff (b : Byte) : bankOfCode b = none ↔ ¬ (b = 1 ∨ b = 2) := by
  rw [Option.eq_none_iff_forall_ne_some]
  constructor
  · intro h
    rintro (rfl | rfl)
    · exact h .A rfl
    · exact h .B rfl
  · rintro h (_ | _) e
    · exact h (.inl ((bankOfCode_eq_some_iff b .A).mp e))
    · exact h (.inr ((bankOfCode_eq_some_iff b .B).mp e))

/-! ## READ_RECORDS (R170) -/

/-- READ_RECORDS by its four argument bytes. -/
theorem readRecordsRequest_eq (src : Source) (a b p k : Byte) (s : State) :
    readRecordsRequest src [a, b, p, k] s = match tableOfCode a, bankOfCode b with
      | some t, some bank =>
        if k.toNat = 0 ∨ 8 < k.toNat then .plain .badField s
        else if t.lastPosition < p.toNat + k.toNat - 1 then .plain .badIndex s
        else { status := .ok, results := (List.range k.toNat).flatMap fun i => (s.store.bank bank).read t (p.toNat + i)
               state := s }
      | _, _ => .plain .badField s := rfl

/-- Settles O44. -/
theorem readRecordsReturnsStoredRecords : Obligations.ReadRecordsReturnsStoredRecords := by
  intro s f src a b p k h
  refine ⟨fun undefined => ?_, fun ⟨_, bank, lo, hi⟩ t ht => ?_⟩
  · refine congrArg Host.Outcome.next (takeRequest_plain h ?_)
    rw [readRecordsRequest_eq]
    split
    · next t id ht hb =>
      have table : a.toNat ≤ 2 := not_not.mp fun e => by rw [(tableOfCode_eq_none_iff a).mpr e] at ht; cases ht
      have bank : b = 1 ∨ b = 2 := not_not.mp fun e => by rw [(bankOfCode_eq_none_iff b).mpr e] at hb; cases hb
      rw [if_pos]
      by_contra count
      exact undefined ⟨table, bank, by omega, by omega⟩
    · rfl
  · obtain ⟨id, hb, stored⟩ : ∃ id, bankOfCode b = some id
        ∧ s.store.bank id = if b = 1 then s.store.bankA else s.store.bankB := by
      obtain rfl | rfl := bank
      · exact ⟨.A, rfl, rfl⟩
      · exact ⟨.B, rfl, rfl⟩
    have request := readRecordsRequest_eq src a b p k s.dropRequest
    rw [ht, hb] at request
    dsimp only at request
    rw [if_neg (by omega)] at request
    refine ⟨fun beyond => ?_, fun within => ?_⟩
    · exact congrArg Host.Outcome.next (takeRequest_plain h (request.trans (if_pos beyond)))
    · rw [← stored]
      exact congrArg Host.Outcome.next (takeRequest_answer h (request.trans (if_neg (Nat.not_lt.mpr within))))

/-! ## COPY_BANK (R171, R7) -/

/-- The three ways COPY_BANK ends for a source with PLAN. -/
theorem copyRequest_of_plan (plan : s.zones.plan src = true) (args : List Byte) : copyRequest src args s =
    match s.store.serving with
    | none => .plain .badRequest s
    | some id =>
      if s.store.requested.isSome then .plain .bankLocked s
      else { status := .ok, results := [bankCode (some id.other)]
             state := s.modStore fun st => st.setBank id.other (st.bank id) } := by
  unfold copyRequest
  exact if_neg (by rw [plan]; decide)

/-- Settles O45. -/
theorem copyBankMakesTheBanksEqual : Obligations.CopyBankMakesTheBanksEqual := by
  intro s f src h plan
  have request := copyRequest_of_plan (s := s.dropRequest) plan []
  refine ⟨fun none => ?_, fun b serving => ⟨fun pending => ?_, fun idle => ?_⟩⟩
  · rw [State.dropRequest_store, none] at request
    exact congrArg Host.Outcome.next (takeRequest_plain h request)
  · rw [State.dropRequest_store, serving] at request
    dsimp only at request
    rw [if_pos pending] at request
    exact congrArg Host.Outcome.next (takeRequest_plain h request)
  · rw [State.dropRequest_store, serving] at request
    dsimp only at request
    rw [if_neg (by rw [idle]; decide)] at request
    refine ⟨_, congrArg Host.Outcome.next (takeRequest_answer h request), ⟨rfl, ?_⟩, ?_⟩
    · cases b <;> rfl
    · cases b <;> exact ⟨rfl, rfl, rfl⟩

/-! ## Denials (R185) -/

/-- Settles O49: a denial writes the capture, and each of these requests checks its right before it does anything. -/
theorem denialsChangeOnlyTheCapture : Obligations.DenialsChangeOnlyTheCapture := by
  refine ⟨fun s src code slot => ⟨fun empty => ?_, fun c full => ?_⟩, fun s f src args => ⟨fun plan => ?_, fun admin => ?_⟩⟩
  · simp only [State.denial, State.modZones, empty, State.now]
  · simp only [State.denial, State.modZones, full, satInc]
  · simp only [List.forall_mem_cons]
    refine ⟨fun h _ => ?_, fun h _ => ?_, fun h target => ?_, nofun⟩
    · exact congrArg Host.Outcome.next (takeRequest_denied h (if_pos plan))
    · exact congrArg Host.Outcome.next (takeRequest_denied h (if_pos plan))
    · refine congrArg Host.Outcome.next (takeRequest_denied h ?_)
      obtain rfl | rfl := target trivial
      · exact if_pos plan
      · exact if_pos plan
  · simp only [List.forall_mem_cons]
    refine ⟨fun h _ _ => ?_, fun h _ _ => ?_, fun h _ _ => ?_, fun h _ _ => ?_, fun h zone _ => ?_, fun h _ entry => ?_, nofun⟩
    · exact congrArg Host.Outcome.next (takeRequest_denied h (if_pos admin))
    · exact congrArg Host.Outcome.next (takeRequest_denied h (if_pos admin))
    · exact congrArg Host.Outcome.next (takeRequest_denied h (if_pos admin))
    · exact congrArg Host.Outcome.next (takeRequest_denied h (if_pos admin))
    · refine congrArg Host.Outcome.next (takeRequest_denied h ?_)
      unfold zoneRequest
      rw [dif_pos (Nat.lt_succ_of_le (zone trivial))]
      exact if_pos admin
    · refine congrArg Host.Outcome.next (takeRequest_denied h ?_)
      unfold rightsRequest
      rw [dif_pos (Nat.lt_succ_of_le (entry trivial))]
      exact if_pos admin

end Sys2Proof.Machine
end

section
/-!
SUPPORT. Work that visits the slots one after the other: what one visit leaves alone, and what the record of a slot is
when every slot has been visited. A visit to a slot touches that slot's record, the alert queue and the motion list.
-/

namespace Sys2Proof.Machine

/-! ## What a visit leaves alone -/

/-- Only slot records, the alert queue and its overflow count, and the motion list and its pointer may differ. -/
def VisitFrame (s t : State) : Prop :=
  t = { s with
    alerts := t.alerts
    slots := t.slots
    trunk := { s.trunk with motionList := t.trunk.motionList, motionPtr := t.trunk.motionPtr }
    mgmt := { s.mgmt with
      counters := { s.mgmt.counters with queueOverflow := t.mgmt.counters.queueOverflow } } }

/-- A visit to slot `n`: of the slot records, only that of `n` may change, held-back flags aside. -/
structure Visit (n : Slot) (s t : State) : Prop where
  frame : VisitFrame s t
  others : ∀ m, m ≠ n → SameButHeld (s.slot m) (t.slot m)

theorem VisitFrame.refl (s : State) : VisitFrame s s := rfl

theorem VisitFrame.trans {s t u : State} (h : VisitFrame s t) (k : VisitFrame t u) : VisitFrame s u := by
  unfold VisitFrame at *
  rw [h] at k
  exact k

section
variable {s t : State} (h : VisitFrame s t)
include h

theorem VisitFrame.time : t.time = s.time := (congrArg State.time h :)

theorem VisitFrame.store : t.store = s.store := (congrArg State.store h :)

theorem VisitFrame.chans : t.chans = s.chans := (congrArg State.chans h :)

theorem VisitFrame.sessions : t.sessions = s.sessions := (congrArg State.sessions h :)

theorem VisitFrame.zones : t.zones = s.zones := (congrArg State.zones h :)

theorem VisitFrame.link : t.link = s.link := (congrArg State.link h :)

theorem VisitFrame.mask : t.mgmt.mask = s.mgmt.mask := (congrArg (fun u : State => u.mgmt.mask) h :)

theorem VisitFrame.nodes : t.trunk.nodes = s.trunk.nodes := (congrArg (fun u : State => u.trunk.nodes) h :)

theorem VisitFrame.node (n : Node) : t.node n = s.node n := by
  unfold State.node
  rw [VisitFrame.nodes h]

theorem VisitFrame.chan (c : Chan) : t.chan c = s.chan c := by
  unfold State.chan
  rw [VisitFrame.chans h]

theorem VisitFrame.minute : t.minute = s.minute := by
  unfold State.minute
  rw [VisitFrame.time h]

theorem VisitFrame.now : t.now = s.now := by
  unfold State.now
  rw [VisitFrame.time h]

theorem VisitFrame.covered (n : Slot) : t.covered n = s.covered n := by
  unfold State.covered State.coveringId State.session
  rw [VisitFrame.sessions h]

end

theorem Visit.refl (n : Slot) (s : State) : Visit n s s := ⟨.refl s, fun _ _ => .refl _⟩

theorem Visit.trans {n : Slot} {s t u : State} (h : Visit n s t) (k : Visit n t u) : Visit n s u :=
  ⟨h.frame.trans k.frame, fun m hm => (h.others m hm).trans (k.others m hm)⟩

theorem OnlySlot.visit {n : Slot} {s t : State} (h : OnlySlot n s t) : Visit n s t := by
  obtain ⟨frame, others⟩ := h
  refine ⟨?_, others⟩
  unfold VisitFrame
  rw [frame]

theorem OnlyAlerts.visit {s t : State} (h : OnlyAlerts s t) (n : Slot) : Visit n s t := (h.onlySlot n).visit

/-! ## The slot engine's visits -/

theorem leaveMotion_visit (b : Bank) (n : Slot) (s : State) : Visit n s (leaveMotion b n s) := by
  obtain ⟨l, p, h⟩ := leaveMotion_eq b n s
  rw [h]
  exact ⟨rfl, fun _ _ => .refl _⟩

/-- A slot that leaves motion keeps every slot's record. -/
@[simp] theorem leaveMotion_slot (b : Bank) (n m : Slot) (s : State) : (leaveMotion b n s).slot m = s.slot m := by
  obtain ⟨l, p, h⟩ := leaveMotion_eq b n s
  rw [h]
  rfl

theorem clearMotion_visit (b : Bank) (n : Slot) (s : State) : Visit n s (clearMotion b n s) := by
  unfold clearMotion
  dsimp only
  split
  · exact (modSlot_onlySlot s n _).visit.trans (leaveMotion_visit b n _)
  · exact (modSlot_onlySlot s n _).visit

@[simp] theorem clearMotion_slot (b : Bank) (n : Slot) (s : State) :
    (clearMotion b n s).slot n = { s.slot n with motion := none, motionReported := false } := by
  unfold clearMotion
  dsimp only
  split
  · rw [leaveMotion_slot, State.slot_modSlot_self]
  · rw [State.slot_modSlot_self]

theorem faultTest_visit (b : Bank) (n : Slot) (s : State) : Visit n s (faultTest b n s) := by
  unfold faultTest
  split
  · split
    · exact ((modSlot_onlySlot s n _).visit.trans (clearMotion_visit b n _)).trans
        ((raiseAlert_onlyAlerts b _ _).visit n)
    · exact .refl n s
  · split
    · exact (modSlot_onlySlot s n _).visit
    · exact .refl n s

theorem changedSlot_visit (new : Bank) (n : Slot) (s : State) : Visit n s (changedSlot new n s) := by
  have first := (modSlot_onlySlot s n fun v => { v.toUnknown with fresh := 0 }).visit.trans
    ((withdrawSlot_onlyAlerts new n (fun k => k ≠ .fault) _).visit n)
  unfold changedSlot changedFault
  dsimp only
  split
  · exact first.trans (faultTest_visit new n _)
  · exact first.trans (modSlot_onlySlot _ n _).visit

theorem completeSlot_visit (x : Bool) (old new : Bank) (n : Slot) (s : State) :
    Visit n s (completeSlot x old new n s) := by
  unfold completeSlot
  split
  · exact changedSlot_visit new n s
  · exact (keptSlot_onlySlot old new n s).visit

/-! ## Visiting slots in turn -/

section
variable (f : State → Slot → State) (visits : ∀ s n, Visit n s (f s n))
include visits

theorem foldl_visitFrame (ns : List Slot) (s : State) : VisitFrame s (ns.foldl f s) := by
  induction ns generalizing s with
  | nil => exact .refl s
  | cons n ns ih => exact (visits s n).frame.trans (ih _)

/-- A slot that is not visited keeps its record, its held-back flag aside. -/
theorem foldl_visits_not_mem {ns : List Slot} {n : Slot} (h : n ∉ ns) (s : State) :
    SameButHeld (s.slot n) ((ns.foldl f s).slot n) := by
  induction ns generalizing s with
  | nil => exact .refl _
  | cons m ns ih =>
    rw [List.mem_cons, not_or] at h
    exact ((visits s m).others n h.1).trans (ih h.2 _)

/-- When every slot of a list has been visited once, the record of each is as its own visit left it, held-back flag
aside, and that visit found the record as it was at the start. -/
theorem foldl_visits_mem {ns : List Slot} (once : ns.Nodup) {n : Slot} (h : n ∈ ns) (s : State) :
    ∃ u, VisitFrame s u ∧ SameButHeld (s.slot n) (u.slot n)
      ∧ SameButHeld ((f u n).slot n) ((ns.foldl f s).slot n) := by
  induction ns generalizing s with
  | nil => cases h
  | cons m ns ih =>
    rw [List.nodup_cons] at once
    obtain rfl | later := List.mem_cons.mp h
    · exact ⟨s, .refl s, .refl _, foldl_visits_not_mem f visits once.1 _⟩
    · have apart : n ≠ m := fun e => once.1 (e ▸ later)
      obtain ⟨u, frame, before, after⟩ := ih once.2 later (f s m)
      exact ⟨u, (visits s m).frame.trans frame, ((visits s m).others n apart).trans before, after⟩

end

theorem allSlots_nodup : allSlots.Nodup := List.nodup_finRange 256

theorem mem_allSlots (n : Slot) : n ∈ allSlots := List.mem_finRange n

/-! ## The completion of a switch as visits -/

/-- The slots' part of a switch completion (R13 to R15). -/
def completeSlots (target : BankId) (s : State) : State :=
  allSlots.foldl (fun s' n => completeSlot s.store.serving.isNone s.acting (s.store.bank target) n s') s

theorem completeSlots_frame (target : BankId) (s : State) : VisitFrame s (completeSlots target s) :=
  foldl_visitFrame _ (fun s' n => completeSlot_visit _ _ _ n s') _ s

/-- A switch completion visits the slots, then sets the pointers, the motion list, the mark and the serving bank. -/
theorem completeSwitch_eq (target : BankId) (s : State) : completeSwitch target s = { completeSlots target s with
    store := { s.store with serving := some target, requested := none }
    trunk := { s.trunk with rosterPtr := 0, motionList := [], motionPtr := 0, rosterEmpty := false } } := by
  have frame := completeSlots_frame target s
  have store := frame.store
  have trunk : (completeSlots target s).trunk = { s.trunk with
      motionList := (completeSlots target s).trunk.motionList
      motionPtr := (completeSlots target s).trunk.motionPtr } := (congrArg State.trunk frame :)
  have unfolded : completeSwitch target s = ((completeSlots target s).modTrunk fun t =>
      { t with rosterPtr := 0, motionList := [], motionPtr := 0, rosterEmpty := false }).modStore fun st =>
      { st with serving := some target, requested := none } := rfl
  rw [unfolded]
  unfold State.modStore State.modTrunk
  dsimp only
  rw [store, trunk]

end Sys2Proof.Machine
end

section
/-!
SUPPORT. A decision of the arbiter with no switch pending, and one while a transaction is in flight. Settles O46.
-/

namespace Sys2Proof.Machine

/-! ## The arbiter with no switch pending -/

/-- Only channel records, slot records and the trunk controller may differ. -/
def PollFrame (s t : State) : Prop := t = { s with chans := t.chans, slots := t.slots, trunk := t.trunk }

theorem PollFrame.refl (s : State) : PollFrame s s := rfl

theorem PollFrame.trans {s t u : State} (h : PollFrame s t) (k : PollFrame t u) : PollFrame s u := by
  unfold PollFrame at *
  rw [h] at k
  exact k

theorem PollFrame.store {s t : State} (h : PollFrame s t) : t.store = s.store := (congrArg State.store h :)

theorem PollFrame.time {s t : State} (h : PollFrame s t) : t.time = s.time := (congrArg State.time h :)

theorem PollFrame.zones {s t : State} (h : PollFrame s t) : t.zones = s.zones := (congrArg State.zones h :)

theorem PollFrame.sessions {s t : State} (h : PollFrame s t) : t.sessions = s.sessions :=
  (congrArg State.sessions h :)

theorem PollFrame.link {s t : State} (h : PollFrame s t) : t.link = s.link := (congrArg State.link h :)

theorem PollFrame.mgmt {s t : State} (h : PollFrame s t) : t.mgmt = s.mgmt := (congrArg State.mgmt h :)

theorem PollFrame.foldl {α : Type} (f : State → α → State) (h : ∀ s x, PollFrame s (f s x)) (xs : List α)
    (s : State) : PollFrame s (xs.foldl f s) := by
  induction xs generalizing s with
  | nil => exact .refl s
  | cons x xs ih => exact (h s x).trans (ih _)

theorem startForward_pollFrame (f : Frame) (rest : List Frame) (s : State) :
    PollFrame s (startForward f rest s) := by
  unfold startForward
  dsimp only
  refine PollFrame.trans ?_ rfl
  split
  · exact (PollFrame.foldl _ (by intros; rfl) _ s).trans (PollFrame.foldl _ (by intros; rfl) _ _)
  · exact .refl s

/-- From a position that is not the last, an advance adds 1 to the roster pointer (R148). -/
theorem advanceRoster_step {s : State} (h : s.trunk.rosterPtr + 1 < s.acting.length) :
    advanceRoster s = (s.modTrunk fun t => { t with rosterPtr := t.rosterPtr + 1 }, false) := if_pos h

/-- The roster turn with no switch pending sets the roster pointer to 0 (R148). -/
theorem advanceRoster_turn {s : State} (h : ¬ s.trunk.rosterPtr + 1 < s.acting.length)
    (idle : s.store.requested = none) :
    advanceRoster s = (s.modTrunk fun t => { t with rosterPtr := 0 }, false) := by
  unfold advanceRoster
  rw [if_neg h]
  dsimp only [State.modTrunk_store]
  rw [idle]

/-- The roster turn with a switch pending completes it (R12). -/
theorem advanceRoster_completes {s : State} {target : BankId} (h : ¬ s.trunk.rosterPtr + 1 < s.acting.length)
    (pending : s.store.requested = some target) :
    advanceRoster s = (completeSwitch target (s.modTrunk fun t => { t with rosterPtr := 0 }), true) := by
  unfold advanceRoster
  rw [if_neg h]
  dsimp only [State.modTrunk_store]
  rw [pending]

/-- With no switch pending an advance moves the roster pointer alone. -/
theorem advanceRoster_of_no_switch {s : State} (idle : s.store.requested = none) :
    ∃ p, advanceRoster s = (s.modTrunk fun t => { t with rosterPtr := p }, false) := by
  by_cases h : s.trunk.rosterPtr + 1 < s.acting.length
  · exact ⟨_, advanceRoster_step h⟩
  · exact ⟨_, advanceRoster_turn h idle⟩

theorem skipPass_pollFrame (k : Nat) (s : State) (h : s.store.requested = none) : PollFrame s (skipPass k s).1 := by
  induction k generalizing s with
  | zero =>
    unfold skipPass
    split
    · exact rfl
    · exact rfl
  | succ k ih =>
    obtain ⟨p, moved⟩ := advanceRoster_of_no_switch h
    unfold skipPass
    rw [moved]
    split
    · exact rfl
    · have moves : PollFrame s (s.modTrunk fun t => { t with rosterPtr := p }) := rfl
      exact moves.trans (ih _ h)

theorem makePoll_pollFrame (s : State) (h : s.store.requested = none) : PollFrame s (makePoll s).1 := by
  unfold makePoll
  split
  · split
    · exact rfl
    · exact .refl s
  · exact skipPass_pollFrame _ s h

theorem arbiter_pollFrame (k : Nat) (s : State) (h : s.store.requested = none) : PollFrame s (arbiter k s) := by
  induction k generalizing s with
  | zero => exact .refl s
  | succ k ih =>
    have poll := makePoll_pollFrame s h
    have again : ∀ t, PollFrame s t → PollFrame s (arbiter k t) := fun t frame =>
      frame.trans (ih t (by rw [frame.store]; exact h))
    unfold arbiter
    split
    · exact .refl s
    · split
      · split
        · next e => rw [e] at poll; exact again _ poll
        · next e => rw [e] at poll; exact poll
      · split
        · exact startForward_pollFrame _ _ s
        · split
          · split
            · next e => rw [e] at poll; exact again _ poll
            · next e => rw [e] at poll; exact poll
          · exact .refl s

/-- A decision of the arbiter with no switch pending leaves the table store and everything off the trunk alone. -/
theorem arbitrate_pollFrame {s : State} (h : s.store.requested = none) : PollFrame s (arbitrate s) :=
  arbiter_pollFrame _ s h

/-- The arbiter makes no decision while a transaction is in flight (R146). -/
theorem arbitrate_of_busy {s : State} (h : s.trunk.txn.isSome = true) : arbitrate s = s := by
  show (if s.trunk.txn.isSome || s.trunk.listening.isSome then s else _) = s
  rw [h]
  rfl

/-! ## SWITCH_BANK and CANCEL_SWITCH (R10, R11) -/

/-- SWITCH_BANK by its bank byte, for a source with PLAN: the first matching row of Table 1-8. -/
theorem switchRequest_of_plan {s : State} {src : Source} {a : Byte} {target : BankId} (ha : bankOfCode a = some target)
    (plan : s.zones.plan src = true) : switchRequest src [a] s =
      if s.store.serving = some target then
        if s.store.requested.isSome then
          switchAnswer .cancelled false (s.modStore fun st => { st with requested := none })
        else switchAnswer .same false s
      else if s.store.requested = some target then switchAnswer .pending false s
      else if s.store.serving = none ∨ s.acting.length = 0 then switchAnswer .ok true (completeSwitch target s)
      else switchAnswer .pending true (pendSwitch target s) := by
  show (match bankOfCode a with
    | none => Answer.plain .badField s
    | some target => _) = _
  rw [ha]
  dsimp only
  rw [if_neg (by rw [plan]; decide)]

theorem bankCode_some (b : BankId) : bankCode (some b) = if b = .A then (1 : Byte) else 2 := by
  cases b <;> rfl

/-- A switch that completes at once: the target serves, and the arbiter's decision that follows keeps it so. -/
theorem switched_at_once {s : State} {f : Frame} {src : Source} {a : Byte} {target : BankId}
    (h : Taking s f src 0x04 [a])
    (request : switchRequest src [a] s.dropRequest = switchAnswer .ok true (completeSwitch target s.dropRequest)) :
    ∃ t, exec .switchBank s = .next t ∧ Answered s t f 0x04 .ok [bankCode (some target), 0, 0]
      ∧ t.store = { s.store with serving := some target, requested := none }
      ∧ t.time = s.time ∧ t.zones = s.zones ∧ t.sessions = s.sessions ∧ t.link = s.link := by
  have taken := takeRequest_of_taking h switchRequest
  rw [request] at taken
  have visited := completeSlots_frame target s.dropRequest
  have eq := completeSwitch_eq target s.dropRequest
  have requests : (completeSlots target s.dropRequest).mgmt.requests = s.mgmt.requests.tail :=
    (congrArg (fun u : State => u.mgmt.requests) visited :)
  rw [eq] at taken
  have decision := arbitrate_pollFrame (s := State.respond { completeSlots target s.dropRequest with
    store := { s.dropRequest.store with serving := some target, requested := none }
    trunk := { s.dropRequest.trunk with rosterPtr := 0, motionList := [], motionPtr := 0, rosterEmpty := false } }
    f.tag 0x04 .ok [bankCode (some target), 0, 0]) rfl
  refine ⟨_, congrArg Host.Outcome.next taken, ⟨?_, ?_⟩, ?_, ?_, ?_, ?_, ?_⟩
  · exact (congrArg Mgmt.requests decision.mgmt).trans requests
  · exact congrArg Mgmt.response decision.mgmt
  · exact decision.store
  · exact decision.time.trans visited.time
  · exact decision.zones.trans visited.zones
  · exact decision.sessions.trans visited.sessions
  · exact decision.link.trans visited.link

/-- Settles O46, row by row. -/
theorem switchBankAndCancelFollowTable18 : Obligations.SwitchBankAndCancelFollowTable18 := by
  refine ⟨fun s f src a h => ⟨fun notA notB => ?_, fun target ha plan => ?_⟩, fun s f src h plan => ?_⟩
  · refine congrArg Host.Outcome.next (takeRequest_plain h ?_)
    have unnamed : bankOfCode a = none := (bankOfCode_eq_none_iff a).mpr (not_or.mpr ⟨notA, notB⟩)
    show (match bankOfCode a with
      | none => Answer.plain .badField s.dropRequest
      | some target => _) = _
    rw [unnamed]
  · have row := switchRequest_of_plan (s := s.dropRequest) ha plan
    rw [State.dropRequest_store] at row
    dsimp only
    rw [← bankCode_some]
    refine ⟨fun serving idle => ?_, fun serving pending => ?_, fun serving pending => ?_,
      fun serving idle => ⟨fun atOnce => ?_, fun serves roster busy => ?_⟩⟩
    · rw [if_pos serving, if_neg (by rw [idle]; decide)] at row
      rw [← show switchResults s.dropRequest.store = [bankCode (some target), 0, 0] by
        unfold switchResults; rw [State.dropRequest_store, serving, idle]; rfl]
      exact congrArg Host.Outcome.next (takeRequest_answer h row)
    · rw [if_pos serving, if_pos pending] at row
      rw [← serving]
      exact congrArg Host.Outcome.next (takeRequest_answer h row)
    · rw [if_neg serving, if_pos pending] at row
      rw [← show switchResults s.dropRequest.store = [bankCode s.store.serving, 1, bankCode (some target)] by
        unfold switchResults; rw [State.dropRequest_store, pending]; rfl]
      exact congrArg Host.Outcome.next (takeRequest_answer h row)
    · rw [if_neg serving, if_neg idle,
        if_pos (show s.store.serving = none ∨ s.dropRequest.acting.length = 0 from atOnce)] at row
      obtain ⟨t, done, answered, store, rest⟩ := switched_at_once h row
      exact ⟨t, done, answered, by rw [store], by rw [store], by rw [store], by rw [store], rest⟩
    · have later : ¬ (s.store.serving = none ∨ s.dropRequest.acting.length = 0) := fun e => e.elim
        (fun none => by rw [none] at serves; cases serves) roster
      rw [if_neg serving, if_neg idle, if_neg later] at row
      have taken := takeRequest_of_taking h switchRequest
      rw [row, finish_of_decision rfl] at taken
      exact congrArg Host.Outcome.next (taken.trans (arbitrate_of_busy busy))
  · have row : cancelRequest src [] s.dropRequest = if s.store.requested.isSome then
          switchAnswer .cancelled false (s.dropRequest.modStore fun st => { st with requested := none })
        else switchAnswer .nothingPending false s.dropRequest := if_neg (by rw [State.dropRequest_zones, plan]; decide)
    refine ⟨fun pending => ?_, fun idle => ?_⟩
    · rw [if_pos pending] at row
      exact congrArg Host.Outcome.next (takeRequest_answer h row)
    · rw [if_neg (by rw [idle]; decide)] at row
      rw [← show switchResults s.dropRequest.store = [bankCode s.store.serving, 0, 0] by
        unfold switchResults; rw [State.dropRequest_store, idle]; rfl]
      exact congrArg Host.Outcome.next (takeRequest_answer h row)

end Sys2Proof.Machine
end

section
/-!
SUPPORT. LOAD_RECORDS: its request-level checks, the walk of its pointer and counts over the records, and what becomes
of one record (R167 to R169). Settles O42 and O43.
-/

namespace Sys2Proof.Machine

variable {src : Source} {args : List Byte} {s : State} {table : Table} {bank : BankId}

/-! ## The request-level checks (R167) -/

/-- The fields of a LOAD_RECORDS are defined for its table: condition, compare field and record count. -/
def LoadFieldsOk (a : LoadArgs) (t : Table) : Prop :=
  a.condition ≤ 2 ∧ (a.condition ≠ 0 → a.field ≤ t.lastField) ∧ 1 ≤ a.count ∧ a.count ≤ 8

/-- The load window lies in the table's index space with the start position inside. -/
def LoadWindowOk (a : LoadArgs) (t : Table) : Prop :=
  a.first ≤ a.start ∧ a.start ≤ a.last ∧ a.last ≤ t.lastPosition

/-- The checks of a LOAD_RECORDS that names a table and a bank. -/
theorem loadChecks_eq {a : LoadArgs} (ht : tableOfCode a.tableCode = some table) (hb : bankOfCode a.bank = some bank)
    (st : TableStore) : loadChecks a st =
    if 2 < a.condition ∨ (a.condition ≠ 0 ∧ table.lastField < a.field) ∨ a.count = 0 ∨ 8 < a.count then some .badField
    else if st.serving = some bank then some .activeBank
    else if st.requested = some bank then some .bankLocked
    else if a.last < a.first ∨ table.lastPosition < a.last ∨ table.lastPosition < a.first ∨ a.start < a.first
        ∨ a.last < a.start then some .badIndex
    else none := by
  unfold loadChecks
  rw [ht, hb]

/-- A LOAD_RECORDS whose table, bank or fields are not defined fails the first check. -/
theorem loadChecks_undefined {a : LoadArgs}
    (h : ∀ t id, tableOfCode a.tableCode = some t → bankOfCode a.bank = some id → ¬ LoadFieldsOk a t)
    (st : TableStore) : loadChecks a st = some .badField := by
  cases ht : tableOfCode a.tableCode with
  | none => unfold loadChecks; rw [ht]
  | some t =>
    cases hb : bankOfCode a.bank with
    | none => unfold loadChecks; rw [ht, hb]
    | some id =>
      have bad := h t id ht hb
      unfold LoadFieldsOk at bad
      rw [loadChecks_eq ht hb, if_pos (by omega)]

/-- The checks that follow the fields, in their order. -/
theorem loadChecks_defined {a : LoadArgs} (ht : tableOfCode a.tableCode = some table)
    (hb : bankOfCode a.bank = some bank) (ok : LoadFieldsOk a table) (st : TableStore) : loadChecks a st =
    if st.serving = some bank then some .activeBank
    else if st.requested = some bank then some .bankLocked
    else if a.last < a.first ∨ table.lastPosition < a.last ∨ table.lastPosition < a.first ∨ a.start < a.first
        ∨ a.last < a.start then some .badIndex
    else none := by
  unfold LoadFieldsOk at ok
  rw [loadChecks_eq ht hb, if_neg (by omega)]

/-- All checks pass. -/
theorem loadChecks_pass {a : LoadArgs} (ht : tableOfCode a.tableCode = some table)
    (hb : bankOfCode a.bank = some bank) (ok : LoadFieldsOk a table) (window : LoadWindowOk a table) {st : TableStore}
    (serving : st.serving ≠ some bank) (requested : st.requested ≠ some bank) : loadChecks a st = none := by
  obtain ⟨_, _, _⟩ := window
  rw [loadChecks_defined ht hb ok, if_neg serving, if_neg requested, if_neg (by omega)]

theorem loadRequest_refused {status : Status} (h : loadChecks (loadArgs args) s.store = some status) :
    loadRequest src args s = .plain status s := by
  unfold loadRequest
  dsimp only
  rw [h]

/-- A LOAD_RECORDS that passes its checks takes its records in turn. -/
theorem loadRequest_taken (ht : tableOfCode (loadArgs args).tableCode = some table)
    (hb : bankOfCode (loadArgs args).bank = some bank) (h : loadChecks (loadArgs args) s.store = none) :
    loadRequest src args s =
      let done := (splitRecords table.recordSize (loadArgs args).count (args.drop loadFixed)).foldl
        (loadRecord src (loadArgs args) table bank) (s, ⟨(loadArgs args).start, 0, 0, none⟩)
      { status := .ok, results := done.2.results, state := done.1 } := by
  unfold loadRequest
  dsimp only
  rw [h, ht, hb]

/-! ## The walk over the records (R168, R169) -/

theorem setBank_bank (st : TableStore) (id : BankId) : st.setBank id (st.bank id) = st := by
  cases id <;> rfl

theorem setBank_setBank (st : TableStore) (id : BankId) (b b' : Bank) :
    (st.setBank id b).setBank id b' = st.setBank id b' := by
  cases id <;> rfl

/-- The records of a load change the named bank and the protection capture at most. -/
theorem loadRecords_eq (src : Source) (a : LoadArgs) (t : Table) (bank : BankId) (rs : List (List Byte))
    (acc : State × LoadProgress) : ∃ b c, (rs.foldl (loadRecord src a t bank) acc).1 = { acc.1 with
      store := acc.1.store.setBank bank b
      zones := { acc.1.zones with capture := c } } := by
  induction rs generalizing acc with
  | nil => exact ⟨acc.1.store.bank bank, acc.1.zones.capture, by rw [setBank_bank]; rfl⟩
  | cons r rs ih =>
    obtain ⟨b, c, first⟩ := loadRecord_eq src a t bank acc.1 acc.2 r
    obtain ⟨b', c', rest⟩ := ih (loadRecord src a t bank acc r)
    refine ⟨b', c', rest.trans ?_⟩
    rw [first, setBank_setBank]

/-- Every record counts once, accepted or skipped. -/
theorem loadRecord_counts (src : Source) (a : LoadArgs) (t : Table) (bank : BankId) (acc : State × LoadProgress)
    (r : List Byte) : (loadRecord src a t bank acc r).2.accepted + (loadRecord src a t bank acc r).2.skipped
      = acc.2.accepted + acc.2.skipped + 1 := by
  unfold loadRecord
  dsimp only
  split
  · rfl
  · split
    · rfl
    · split
      · exact Nat.add_right_comm _ _ _
      · rfl

theorem loadRecords_counts (src : Source) (a : LoadArgs) (t : Table) (bank : BankId) (rs : List (List Byte))
    (acc : State × LoadProgress) :
    (rs.foldl (loadRecord src a t bank) acc).2.accepted + (rs.foldl (loadRecord src a t bank) acc).2.skipped
      = acc.2.accepted + acc.2.skipped + rs.length := by
  induction rs generalizing acc with
  | nil => rfl
  | cons r rs ih =>
    rw [List.foldl_cons, ih, loadRecord_counts, List.length_cons]
    omega

/-- The offset of the pointer in its window moves on by one and wraps. -/
theorem nextPosition_offset {a : LoadArgs} {p : Nat} (lo : a.first ≤ p) (k : Nat) :
    (nextPosition a p - a.first + k) % (a.last - a.first + 1) = (p - a.first + (k + 1)) % (a.last - a.first + 1) := by
  unfold nextPosition
  split
  · next e =>
    rw [Nat.sub_self, Nat.zero_add, e, show a.last - a.first + (k + 1) = a.last - a.first + 1 + k by omega,
      Nat.add_mod_left]
  · rw [show p + 1 - a.first + k = p - a.first + (k + 1) by omega]

theorem nextPosition_range {a : LoadArgs} {p : Nat} (lo : a.first ≤ p) (hi : p ≤ a.last) :
    a.first ≤ nextPosition a p ∧ nextPosition a p ≤ a.last := by
  unfold nextPosition
  split <;> omega

/-- The pointer walks round its window, one position for each record. -/
theorem loadRecords_pointer (src : Source) (a : LoadArgs) (t : Table) (bank : BankId) (rs : List (List Byte))
    (acc : State × LoadProgress) (lo : a.first ≤ acc.2.pointer) (hi : acc.2.pointer ≤ a.last) :
    (rs.foldl (loadRecord src a t bank) acc).2.pointer
      = a.first + (acc.2.pointer - a.first + rs.length) % (a.last - a.first + 1) := by
  induction rs generalizing acc with
  | nil =>
    rw [List.foldl_nil, List.length_nil, Nat.add_zero, Nat.mod_eq_of_lt (by omega)]
    omega
  | cons r rs ih =>
    have moved := loadRecord_pointer src a t bank acc.1 acc.2 r
    obtain ⟨lo', hi'⟩ := nextPosition_range lo hi
    rw [List.foldl_cons, ih _ (by rw [moved]; exact lo') (by rw [moved]; exact hi'), moved, nextPosition_offset lo,
      List.length_cons]

/-- Settles O42: the checks by cases, and the walk by induction on the records. -/
theorem loadRecordsChecksInOrderAndAdvances : Obligations.LoadRecordsChecksInOrderAndAdvances := by
  refine ⟨fun s f src args h => ⟨fun undefined => ?_, fun bank ⟨table, _, condition, field, few, many⟩ hb => ?_⟩,
    fun src a t bank s rs lo hi => ?_⟩
  · refine congrArg Host.Outcome.next (takeRequest_plain h (loadRequest_refused (loadChecks_undefined ?_ _)))
    rintro t id ht hb ⟨condition, field, few, many⟩
    refine undefined ⟨?_, ?_, condition, fun t' ht' => ?_, few, many⟩
    · by_contra above
      rw [(tableOfCode_eq_none_iff _).mpr above] at ht
      cases ht
    · by_contra neither
      rw [(bankOfCode_eq_none_iff _).mpr neither] at hb
      cases hb
    · obtain rfl := Option.some.inj (ht.symm.trans ht')
      exact field
  · obtain ⟨t, ht⟩ : ∃ t, tableOfCode (loadArgs args).tableCode = some t :=
      Option.ne_none_iff_exists'.mp fun none => (tableOfCode_eq_none_iff _).mp none table
    have checks := loadChecks_defined ht hb ⟨condition, field t ht, few, many⟩ s.dropRequest.store
    rw [State.dropRequest_store] at checks
    refine ⟨fun serving => ?_, fun serving requested => ?_, fun serving requested => ⟨fun outside => ?_, fun inside => ?_⟩⟩
    · rw [if_pos serving] at checks
      exact congrArg Host.Outcome.next (takeRequest_plain h (loadRequest_refused checks))
    · rw [if_neg serving, if_pos requested] at checks
      exact congrArg Host.Outcome.next (takeRequest_plain h (loadRequest_refused checks))
    · rw [if_neg serving, if_neg requested, if_pos] at checks
      · exact congrArg Host.Outcome.next (takeRequest_plain h (loadRequest_refused checks))
      · by_contra within
        refine outside ⟨by omega, by omega, fun t' ht' => ?_⟩
        obtain rfl := Option.some.inj (ht.symm.trans ht')
        omega
    · obtain ⟨lo, hi, last⟩ := inside
      have passed := loadChecks_pass ht hb ⟨condition, field t ht, few, many⟩ ⟨lo, hi, last t ht⟩
        (st := s.dropRequest.store) serving requested
      obtain ⟨b, c, frame⟩ := loadRecords_eq src (loadArgs args) t bank
        (splitRecords t.recordSize (loadArgs args).count (args.drop loadFixed))
        (s.dropRequest, ⟨(loadArgs args).start, 0, 0, none⟩)
      have request := loadRequest_taken (src := src) ht hb passed
      generalize List.foldl (loadRecord src (loadArgs args) t bank) _ _ = done at request frame
      obtain ⟨u, p⟩ := done
      obtain rfl := frame
      refine ⟨_, p.results, congrArg Host.Outcome.next (takeRequest_answer h request), ⟨rfl, rfl⟩, ?_⟩
      rw [State.respond_store, TableStore.bank_setBank_self]
      rfl
  · dsimp only
    exact ⟨(loadRecords_counts src a t bank rs _).trans (Nat.zero_add _), loadRecords_pointer src a t bank rs _ lo hi⟩

end Sys2Proof.Machine
end

section
/-!
SUPPORT. What becomes of one record of a LOAD_RECORDS: its right, its condition, and the record stored or refused
(R168, R169). Settles O43.
-/

namespace Sys2Proof.Machine

variable {src : Source} {a : LoadArgs} {t : Table} {bank : BankId} {s : State} {p : LoadProgress} {r : List Byte}

/-! ## The four ends of a record -/

theorem loadRecord_denied (right : loadRight t src p.pointer s.zones = false) :
    loadRecord src a t bank (s, p) r
      = (s.denial src codeLoadRecords (loadDeniedSlot t p.pointer), p.refuse a .denied) := by
  unfold loadRecord
  dsimp only
  rw [if_pos right]

theorem loadRecord_skipped (right : loadRight t src p.pointer s.zones = true)
    (condition : conditionHolds a t (s.store.bank bank) p.pointer = false) :
    loadRecord src a t bank (s, p) r
      = (s, { p with pointer := nextPosition a p.pointer, skipped := p.skipped + 1 }) := by
  unfold loadRecord
  dsimp only
  rw [if_neg (by rw [right]; decide), if_pos condition]

/-- A record with its right and its condition is written where its table's rule stores it. -/
theorem loadRecord_written {b : Bank} (right : loadRight t src p.pointer s.zones = true)
    (condition : conditionHolds a t (s.store.bank bank) p.pointer = true)
    (written : (s.store.bank bank).write t p.pointer a.mask r = .ok b) :
    loadRecord src a t bank (s, p) r = (s.modStore fun st => st.setBank bank b,
      { p with pointer := nextPosition a p.pointer, accepted := p.accepted + 1 }) := by
  unfold loadRecord
  dsimp only
  rw [if_neg (by rw [right]; decide), if_neg (by rw [condition]; decide), written]

theorem loadRecord_refused {status : Status} (right : loadRight t src p.pointer s.zones = true)
    (condition : conditionHolds a t (s.store.bank bank) p.pointer = true)
    (refused : (s.store.bank bank).write t p.pointer a.mask r = .error status) :
    loadRecord src a t bank (s, p) r = (s, p.refuse a status) := by
  unfold loadRecord
  dsimp only
  rw [if_neg (by rw [right]; decide), if_neg (by rw [condition]; decide), refused]

/-! ## The right (R168) -/

theorem loadRight_slotCfg_iff {pos : Nat} {z : Zones} :
    loadRight .slotCfg src pos z = true ↔ ∃ n : Slot, n.val = pos ∧ z.holds src .config n = true := by
  unfold loadRight
  dsimp only
  split
  · next range =>
    refine ⟨fun holds => ⟨⟨pos, range⟩, rfl, holds⟩, ?_⟩
    rintro ⟨n, rfl, holds⟩
    exact holds
  · next beyond =>
    refine ⟨nofun, ?_⟩
    rintro ⟨n, rfl, -⟩
    exact absurd n.isLt beyond

/-- A position of up to a byte, as a slot. -/
theorem slotOfByte_ofNat {pos : Nat} (h : pos < 256) : slotOfByte (BitVec.ofNat 8 pos) = ⟨pos, h⟩ := by
  apply Fin.ext
  simp only [slotOfByte, BitVec.toNat_ofNat]
  exact Nat.mod_eq_of_lt h

theorem loadDeniedSlot_eq {pos : Nat} (h : pos < 256) (t : Table) :
    loadDeniedSlot t pos = if t = .slotCfg then some (slotOfByte (BitVec.ofNat 8 pos)) else none := by
  cases t
  · rw [if_pos rfl, slotOfByte_ofNat h]
    exact dif_pos h
  · rfl
  · rfl

/-! ## The condition (R168) -/

/-- The compare fields of a slot configuration record, in order (Table 12-5). -/
theorem slotCfg_fields (c : SlotCfg) (k : Nat) (hk : k ≤ 19) :
    ([c.enabled.toNat, c.article.toNat, c.unitWeight.toNat, c.tare.toNat, c.tolerance.toNat, c.width.toNat,
      c.threshold.toNat, c.band.toNat, c.reorder.toNat, c.clear.toNat, c.mode.code, c.interval.toNat,
      c.notify.toNat, c.emptyAlert.toNat, c.urgentClass.toNat, c.putLimit.toNat, c.ambiguity.toNat,
      c.motionLimit.toNat, c.forecast.toNat, c.lead.toNat].map some)[k]? = some (some (c.field k)) := by
  interval_cases k <;> rfl

/-- The compare fields of a channel map record, in order. -/
theorem chanMap_fields (m : ChanMap) (k : Nat) (hk : k ≤ 4) :
    ([m.route.elim 256 (·.val), m.source.code, m.invert.toNat, (m.offset.signExtend 32).toNat, m.gain.toNat].map
      some)[k]? = some (some (m.field k)) := by
  interval_cases k
  · cases h : m.route <;> simp [ChanMap.field, h]
  all_goals rfl

/-- The compare fields at a roster position: an entry has the first, the header the other three. -/
theorem roster_fields (b : Bank) (pos k : Nat) (hk : k ≤ 3) :
    (if pos < 128 then [some ((b.entry pos).elim 0 fun n => n.val + 1), none, none, none]
      else [none, some b.header.length.toNat, some b.header.interleave.toNat, some b.header.timeout.toNat])[k]?
      = some (b.field .roster pos k) := by
  unfold Bank.field
  dsimp only
  split
  · next range =>
    have entry : b.entry pos = b.roster[pos] := by simp [Bank.entry, List.getD_eq_getElem?_getD, range]
    rw [entry]
    interval_cases k <;> rfl
  · interval_cases k <;> rfl

/-- A condition lets the record go on as Table 12-4 says: always, or on the compare field's value. -/
theorem conditionHolds_iff {b : Bank} {pos : Nat} (known : a.condition ≤ 2) : conditionHolds a t b pos = true ↔
    a.condition = 0 ∨ (a.condition = 1 ∧ b.field t pos a.field = some a.value)
      ∨ (a.condition = 2 ∧ ¬ b.field t pos a.field = some a.value) := by
  obtain h | h | h : a.condition = 0 ∨ a.condition = 1 ∨ a.condition = 2 := by omega
  all_goals simp [conditionHolds, h]

/-! ## A load of one record -/

/-- A LOAD_RECORDS that fits its shape has the records it counts and no more (R189). -/
theorem load_length {f : Frame} {args : List Byte} (h : Taking s f src 0x01 args)
    (ht : tableOfCode (loadArgs args).tableCode = some t) (few : 1 ≤ (loadArgs args).count)
    (many : (loadArgs args).count ≤ 8) : args.length = loadFixed + (loadArgs args).count * t.recordSize := by
  have fits : loadShapeOk args = true := by
    obtain ⟨-, -, -, screened⟩ := h
    unfold screen at screened
    split at screened
    · next code bs _ =>
      split at screened
      · split at screened
        · cases screened
        · next shape known =>
          split at screened
          · next fits =>
            cases screened
            cases known
            exact fits
          · cases screened
      · cases screened
    · cases screened
  unfold loadShapeOk at fits
  dsimp only [loadArgs] at ht few many ⊢
  rw [ht] at fits
  dsimp only at fits
  rw [if_pos ⟨few, many⟩] at fits
  exact of_decide_eq_true fits

/-- A LOAD_RECORDS of one record that passes its checks is what becomes of that record. -/
theorem loadRequest_one {f : Frame} {args : List Byte} (h : Taking s f src 0x01 args)
    (ht : tableOfCode (loadArgs args).tableCode = some t) (hb : bankOfCode (loadArgs args).bank = some bank)
    (one : (loadArgs args).count = 1) {u : State} (checks : loadChecks (loadArgs args) u.store = none) :
    loadRequest src args u =
      let done := loadRecord src (loadArgs args) t bank (u, ⟨(loadArgs args).start, 0, 0, none⟩) (args.drop loadFixed)
      { status := .ok, results := done.2.results, state := done.1 } := by
  have length := load_length h ht (by omega) (by omega)
  have record : splitRecords t.recordSize 1 (args.drop loadFixed) = [args.drop loadFixed] := by
    refine congrArg (· :: []) (List.take_of_length_le ?_)
    rw [List.length_drop, length, one]
    omega
  rw [loadRequest_taken ht hb checks, one, record]
  rfl

/-- Settles O43. -/
theorem loadRecordWritesOneSlotRecord : Obligations.LoadRecordWritesOneSlotRecord := by
  refine ⟨?_, fun b mask r => ⟨fun n => write_slotCfg b n mask r, fun c => ⟨fun refused => ?_, fun m stored => ⟨?_, ?_⟩⟩,
    fun p => write_entry b p mask r, write_header b mask r,
    fun old => ⟨slotWrite_eq_none_iff mask r old, merge_field mask _ old⟩,
    fun old => ⟨chanWrite_eq_none_iff mask r old, fun m stored k hk => ?_⟩,
    fun old => ⟨entryWrite_eq_none_iff mask r old, fun e => entryWrite_eq_some⟩,
    fun old => ⟨headerWrite_eq_none_iff mask r old, fun h => headerWrite_eq_some⟩⟩⟩
  · intro s f src args bank table pos h ht hb known field one lo hi last start serving requested
      b right slot stored equal goesOn write pointer
    have range : pos < 256 := by
      have : table.lastPosition ≤ 255 := by cases table <;> decide
      omega
    have request := loadRequest_one h ht hb one (u := s.dropRequest)
      (loadChecks_pass ht hb ⟨known, field, by omega, by omega⟩ ⟨by omega, by omega, last⟩ serving requested)
    rw [start] at request
    have hright : right ↔ loadRight table src pos s.zones = true := by
      cases table
      · exact loadRight_slotCfg_iff.symm
      · exact Iff.rfl
      · exact Iff.rfl
    have hstored : (loadArgs args).condition ≠ 0 →
        stored[(loadArgs args).field]? = some (b.field table pos (loadArgs args).field) := by
      intro compared
      have small := field compared
      cases table
      · have cfg : b.field .slotCfg pos (loadArgs args).field = some ((b.cfg ⟨pos, range⟩).field (loadArgs args).field) :=
          dif_pos range
        rw [cfg, ← slotOfByte_ofNat range]
        exact slotCfg_fields _ _ small
      · have map : b.field .channelMap pos (loadArgs args).field
            = some ((b.map ⟨pos, range⟩).field (loadArgs args).field) := dif_pos range
        rw [map, ← slotOfByte_ofNat range]
        exact chanMap_fields _ _ small
      · exact roster_fields b pos _ small
    have hgoes : goesOn ↔ conditionHolds (loadArgs args) table b pos = true := by
      rw [conditionHolds_iff known]
      have hequal : (loadArgs args).condition ≠ 0 →
          (equal ↔ b.field table pos (loadArgs args).field = some (loadArgs args).value) := fun compared => by
        rw [← Option.some_inj (b := some (loadArgs args).value), ← hstored compared]
      refine or_congr_right (or_congr (and_congr_right fun one => hequal ?_) (and_congr_right fun two => not_congr (hequal ?_)))
      · rw [one]; decide
      · rw [two]; decide
    refine ⟨fun denied => ?_, fun granted stays => ?_, fun granted goes => ⟨fun b' ok => ?_, fun status error => ?_⟩⟩
    · rw [hright, Bool.not_eq_true] at denied
      rw [loadRecord_denied denied, loadDeniedSlot_eq range] at request
      exact congrArg Host.Outcome.next (takeRequest_answer h request)
    · rw [hgoes, Bool.not_eq_true] at stays
      rw [loadRecord_skipped (hright.mp granted) stays] at request
      exact congrArg Host.Outcome.next (takeRequest_answer h request)
    · rw [loadRecord_written (hright.mp granted) (hgoes.mp goes) ok] at request
      exact congrArg Host.Outcome.next (takeRequest_answer h request)
    · rw [loadRecord_refused (hright.mp granted) (hgoes.mp goes) error] at request
      exact congrArg Host.Outcome.next (takeRequest_answer h request)
  · rw [write_channelMap, refused]
  · intro fifth
    have full := (memberCheck_eq_false_iff b c m.route).mpr fifth
    rw [write_channelMap, stored]
    dsimp only
    rw [if_neg (by rw [full]; decide)]
  · intro fits
    have room : memberCheck b c m.route = true := by
      rw [← Bool.not_eq_false, memberCheck_eq_false_iff]
      exact fits
    rw [write_channelMap, stored]
    dsimp only
    rw [if_pos room]
  · rw [(chanWrite_eq_some stored).1]
    exact chanMerge_field mask _ old k hk

end Sys2Proof.Machine
end

section
/-!
SUPPORT. What the alert queue holds of one slot while work is done for another: its queued entry and its held-back flag
stay, or the slot is offered again with the kind it was held back with (R126 to R131).
-/

namespace Sys2Proof.Machine

/-! ## The entry of a key in a list of entries -/

/-- The entry of a key in a queue. -/
def entryIn (k : AlertKey) (q : List AlertEntry) : Option AlertEntry := q.find? fun e => e.alert.key = k

theorem entry_eq_entryIn (s : State) (k : AlertKey) : s.entry k = entryIn k s.alerts := rfl

theorem entryIn_append (k : AlertKey) (q r : List AlertEntry) :
    entryIn k (q ++ r) = (entryIn k q).or (entryIn k r) := List.find?_append

theorem entryIn_cons_self (e : AlertEntry) (q : List AlertEntry) : entryIn e.alert.key (e :: q) = some e :=
  List.find?_cons_of_pos (decide_eq_true rfl)

theorem entryIn_cons_ne {k : AlertKey} {e : AlertEntry} (h : e.alert.key ≠ k) (q : List AlertEntry) :
    entryIn k (e :: q) = entryIn k q := List.find?_cons_of_neg (by simp [h])

/-- An entry that joins the queue stands somewhere in it. -/
theorem joinTail_eq (e : AlertEntry) (q : List AlertEntry) : ∃ l r, q = l ++ r ∧ joinTail e q = l ++ e :: r := by
  unfold joinTail
  split
  · exact ⟨_, _, List.takeWhile_append_dropWhile.symm, rfl⟩
  · exact ⟨q, [], (List.append_nil q).symm, rfl⟩

theorem length_joinTail (e : AlertEntry) (q : List AlertEntry) : (joinTail e q).length = q.length + 1 := by
  obtain ⟨l, r, split, join⟩ := joinTail_eq e q
  rw [join, split, List.length_append, List.length_append, List.length_cons, Nat.add_assoc]

/-- An entry that joins the queue leaves the other keys' entries alone. -/
theorem entryIn_joinTail_ne {k : AlertKey} {e : AlertEntry} (h : e.alert.key ≠ k) (q : List AlertEntry) :
    entryIn k (joinTail e q) = entryIn k q := by
  obtain ⟨l, r, split, join⟩ := joinTail_eq e q
  rw [join, split, entryIn_append, entryIn_append, entryIn_cons_ne h]

/-- An entry that joins the queue is the entry of its key where there was none. -/
theorem entryIn_joinTail_self {k : AlertKey} {e : AlertEntry} {q : List AlertEntry} (key : e.alert.key = k)
    (h : entryIn k q = none) : entryIn k (joinTail e q) = some e := by
  subst key
  obtain ⟨l, r, split, join⟩ := joinTail_eq e q
  rw [split, entryIn_append, Option.or_eq_none_iff] at h
  rw [join, entryIn_append, h.1, Option.none_or, entryIn_cons_self]

theorem entryIn_without_self (k : AlertKey) (q : List AlertEntry) : entryIn k (without k q) = none := by
  simp [entryIn, without]

theorem entryIn_without_ne {k j : AlertKey} (h : j ≠ k) (q : List AlertEntry) :
    entryIn k (without j q) = entryIn k q := by
  unfold entryIn without
  rw [List.find?_filter]
  refine congrArg (fun p => q.find? p) (funext fun e => ?_)
  by_cases here : e.alert.key = k
  · simp [here, h.symm]
  · simp [here]

/-- An entry replaced in its place leaves the other keys' entries alone. -/
theorem entryIn_replace_ne {k : AlertKey} {e : AlertEntry} (h : e.alert.key ≠ k) (q : List AlertEntry) :
    entryIn k (q.map fun x => if x.alert.key = e.alert.key then e else x) = entryIn k q := by
  induction q with
  | nil => rfl
  | cons x q ih =>
    rw [List.map_cons]
    split
    · next same => rw [entryIn_cons_ne h, entryIn_cons_ne (by rw [same]; exact h), ih]
    · by_cases here : x.alert.key = k
      · subst here
        rw [entryIn_cons_self, entryIn_cons_self]
      · rw [entryIn_cons_ne here, entryIn_cons_ne here, ih]

/-! ## Work beside a slot -/

/-- A held-back slot has no queued entry (R125). -/
def HeldApart (n : Slot) (s : State) : Prop := (s.slot n).held ≠ none → s.entry (.slot n) = none

/-- What the alert queue holds of slot `n` stays, or the held-back slot is queued again with its kind. -/
def BesideView (n : Slot) (s t : State) : Prop :=
  (t.entry (.slot n) = s.entry (.slot n) ∧ (t.slot n).held = (s.slot n).held)
  ∨ ∃ e, (s.slot n).held = some e.alert.kind ∧ t.entry (.slot n) = some e ∧ (t.slot n).held = none

/-- Work beside slot `n`: its part of the alert queue stays or is offered again, and it stays apart. -/
def Beside (n : Slot) (s t : State) : Prop := HeldApart n s → HeldApart n t ∧ BesideView n s t

theorem Beside.of_same {n : Slot} {s t : State} (entry : t.entry (.slot n) = s.entry (.slot n))
    (held : (t.slot n).held = (s.slot n).held) : Beside n s t := fun apart =>
  ⟨fun h => entry.trans (apart (held ▸ h)), .inl ⟨entry, held⟩⟩

theorem Beside.refl (n : Slot) (s : State) : Beside n s s := .of_same rfl rfl

theorem Beside.trans {n : Slot} {s t u : State} (h : Beside n s t) (k : Beside n t u) : Beside n s u := by
  intro apart
  obtain ⟨apart, ⟨entry, held⟩ | ⟨e, held, entry, gone⟩⟩ := h apart
  · obtain ⟨apart, ⟨entry', held'⟩ | ⟨e, held', rest⟩⟩ := k apart
    · exact ⟨apart, .inl ⟨entry'.trans entry, held'.trans held⟩⟩
    · exact ⟨apart, .inr ⟨e, held.symm.trans held', rest⟩⟩
  · obtain ⟨apart, ⟨entry', held'⟩ | ⟨e', held', -⟩⟩ := k apart
    · exact ⟨apart, .inr ⟨e, held, entry'.trans entry, held'.trans gone⟩⟩
    · rw [gone] at held'
      cases held'

/-- A slot that is not held back keeps its part of the alert queue beside other work. -/
theorem Beside.of_not_held {n : Slot} {s t : State} (h : Beside n s t) (free : (s.slot n).held = none) :
    t.entry (.slot n) = s.entry (.slot n) ∧ (t.slot n).held = none := by
  obtain ⟨-, ⟨entry, held⟩ | ⟨e, held, -⟩⟩ := h fun held => absurd free held
  · exact ⟨entry, held.trans free⟩
  · rw [free] at held
    cases held

theorem modSlot_beside {n m : Slot} (h : n ≠ m) (s : State) (f : SlotLive → SlotLive) : Beside n s (s.modSlot m f) :=
  .of_same rfl (by rw [State.slot_modSlot_ne s h])

/-- A re-offer leaves a slot's part of the queue alone, or is the offer of that slot. -/
theorem reoffer_beside (b : Bank) (n : Slot) (s : State) : Beside n s (reoffer b s) := by
  unfold reoffer
  split
  · exact .refl n s
  · next m lowest =>
    split
    · exact .refl n s
    · next kind held =>
      by_cases here : m = n
      · subst here
        intro apart
        have none : s.entry (.slot m) = none := apart (by rw [held]; nofun)
        have gone : (((s.enqueue b (reofferAlert b m kind s)).modSlot m fun v => { v with held := Option.none }).slot m).held
            = Option.none := by rw [State.slot_modSlot_self]
        exact ⟨fun h => absurd gone h, .inr ⟨⟨reofferAlert b m kind s, _⟩, held, entryIn_joinTail_self rfl none, gone⟩⟩
      · have offered : Beside n s (s.enqueue b (reofferAlert b m kind s)) :=
          .of_same (entryIn_joinTail_ne (fun e => here (AlertKey.slot.inj e)) _) rfl
        exact offered.trans (modSlot_beside (Ne.symm here) _ _)

theorem withdraw_beside {b : Bank} {k : AlertKey} {n : Slot} (h : k ≠ .slot n) (s : State) :
    Beside n s (withdraw b k s) := by
  unfold withdraw
  split
  · exact .refl n s
  · have left : Beside n s (s.setAlerts (without k s.alerts)) := .of_same (entryIn_without_ne h _) rfl
    exact left.trans (reoffer_beside b n _)

theorem withdrawSlot_beside {n m : Slot} (h : n ≠ m) (b : Bank) (p : AlertKind → Bool) (s : State) :
    Beside n s (withdrawSlot b m p s) := by
  have release : ∀ t, Beside n s t → Beside n s
      (if (t.slot m).held.any p then t.modSlot m fun v => { v with held := none } else t) := by
    intro t before
    split
    · exact before.trans (modSlot_beside h t _)
    · exact before
  unfold withdrawSlot
  refine release _ ?_
  split
  · split
    · exact withdraw_beside (fun e => h (AlertKey.slot.inj e).symm) s
    · exact .refl n s
  · exact .refl n s

theorem merge_beside {b : Bank} {a : Alert} {n : Slot} (h : a.key ≠ .slot n) (e : AlertEntry) (s : State) :
    Beside n s (merge b a e s) := by
  unfold merge
  split
  · exact withdraw_beside h s
  · split
    · dsimp only
      split
      · exact .of_same (entryIn_replace_ne (e := ⟨a, _⟩) h _) rfl
      · exact .of_same ((entryIn_joinTail_ne (e := ⟨a, _⟩) h _).trans (entryIn_without_ne h _)) rfl
    · exact .refl n s

theorem place_beside {b : Bank} {a : Alert} {n : Slot} (h : a.key ≠ .slot n) (s : State) :
    Beside n s (place b a s) := by
  unfold place
  split
  · exact .of_same (entryIn_joinTail_ne (e := ⟨a, _⟩) h _) rfl
  · have counted : Beside n s (s.modCounters fun c =>
        { c with queueOverflow := satInc Config.counterMax c.queueOverflow }) := .of_same rfl rfl
    dsimp only
    split
    · next m key =>
      refine counted.trans (modSlot_beside ?_ _ _)
      rintro rfl
      exact h key
    · exact counted

/-- An alert raised for another key leaves a slot's part of the queue alone, or brings its re-offer. -/
theorem raiseAlert_beside {b : Bank} {a : Alert} {n : Slot} (h : a.key ≠ .slot n) (s : State) :
    Beside n s (raiseAlert b a s) := by
  unfold raiseAlert
  split
  · exact .refl n s
  · split
    · exact merge_beside h _ s
    · unfold raiseNew
      split
      · next m key =>
        split
        · refine modSlot_beside ?_ s _
          rintro rfl
          exact h key
        · exact place_beside h s
      · exact place_beside h s

/-! ## The slot engine's work for one slot -/

/-- One elementary act of the slot engine for slot `m`. -/
inductive SlotAct (b : Bank) (m : Slot) : State → State → Prop
  | write (s : State) (f : SlotLive → SlotLive) (held : ∀ v, (f v).held = v.held) : SlotAct b m s (s.modSlot m f)
  | raise (s : State) (a : Alert) (key : a.key = .slot m) : SlotAct b m s (raiseAlert b a s)
  | withdraw (s : State) (p : AlertKind → Bool) : SlotAct b m s (withdrawSlot b m p s)
  | leave (s : State) : SlotAct b m s (leaveMotion b m s)

/-- A run of elementary acts for slot `m`. -/
abbrev SlotActs (b : Bank) (m : Slot) : State → State → Prop := Relation.ReflTransGen (SlotAct b m)

/-- The slot engine's work for one slot is work beside every other. -/
theorem SlotAct.beside {b : Bank} {n m : Slot} (h : n ≠ m) {s t : State} (act : SlotAct b m s t) : Beside n s t := by
  cases act with
  | write f held => exact modSlot_beside h s f
  | raise a key => exact raiseAlert_beside (by rw [key]; exact fun e => h (AlertKey.slot.inj e).symm) s
  | withdraw p => exact withdrawSlot_beside h b p s
  | leave =>
    obtain ⟨l, p, left⟩ := leaveMotion_eq b m s
    rw [left]
    exact .of_same rfl rfl

theorem SlotActs.beside {b : Bank} {n m : Slot} (h : n ≠ m) {s t : State} (acts : SlotActs b m s t) : Beside n s t := by
  induction acts with
  | refl => exact .refl n s
  | tail _ act ih => exact ih.trans (act.beside h)

section
variable (b : Bank) (n : Slot) (s : State)

theorem modSlot_acts {f : SlotLive → SlotLive} (h : ∀ v, (f v).held = v.held) : SlotActs b n s (s.modSlot n f) :=
  .single (.write s f h)

theorem arming_acts : SlotActs b n s (arming b n s) := by
  unfold arming
  dsimp only
  split
  · exact .single (.write s _ fun _ => rfl)
  · split
    · exact (Relation.ReflTransGen.single (.raise s _ rfl)).tail (.write _ _ fun _ => rfl)
    · exact .refl

theorem recompute_acts : SlotActs b n s (recompute b n s) :=
  (Relation.ReflTransGen.single (.write s _ fun _ => rfl)).trans (arming_acts b n _)

theorem windowClose_acts : SlotActs b n s (windowClose b n s) :=
  (Relation.ReflTransGen.single (.write s _ fun _ => rfl)).trans (recompute_acts b n _)

theorem forecastStep_acts : SlotActs b n s (forecastStep b n s) := by
  unfold forecastStep
  split
  · exact .refl
  · next e _ =>
    have counted : SlotActs b n s (s.modSlot n fun v => { v with elapsed := some (e + 1) }) :=
      .single (.write s _ fun _ => rfl)
    dsimp only
    split
    · exact counted.trans (windowClose_acts b n _)
    · exact counted

theorem repeatStep_acts : SlotActs b n s (repeatStep b n s) := by
  unfold repeatStep doRepeat
  dsimp only
  split
  · refine Relation.ReflTransGen.tail ?_ (.write _ _ fun _ => rfl)
    split
    · exact .single (.raise s _ rfl)
    · exact .refl
  · exact .refl

theorem slotTick_acts : SlotActs b n s (slotTick b n s) :=
  (repeatStep_acts b n s).trans (forecastStep_acts b n _)

theorem stockEvaluate_acts : SlotActs b n s (stockEvaluate b n s) := by
  unfold stockEvaluate transition
  dsimp only
  split
  · exact .refl
  · split
    · exact .refl
    · next c _ _ =>
      have written : SlotActs b n s (s.modSlot n fun v => v.transit
          (classify (b.cfg n).reorder.toNat (b.cfg n).clear.toNat c (s.slot n).stock) (freshDeadline b n s)) :=
        .single (.write s _ fun _ => rfl)
      split
      · split
        · exact written
        · exact written.tail (.raise _ _ rfl)
      · exact written

theorem restartForecast_acts : SlotActs b n s (restartForecast b n s) :=
  (Relation.ReflTransGen.single (.write s _ fun _ => rfl)).trans (recompute_acts b n _)

theorem keptSlot_acts (old : Bank) : SlotActs b n s (keptSlot old b n s) := by
  have first : ∀ t, SlotActs b n s t → SlotActs b n s
      (if (b.cfg n).enabled && (t.slot n).stock ≠ .unknown then stockEvaluate b n t else t) := by
    intro t before
    split
    · exact before.trans (stockEvaluate_acts b n t)
    · exact before
  unfold keptSlot
  dsimp only
  split
  · exact (first _ (modSlot_acts b n s fun _ => by rfl)).trans (restartForecast_acts b n _)
  · exact first _ (modSlot_acts b n s fun _ => by rfl)

theorem faultTest_acts : SlotActs b n s (faultTest b n s) := by
  have cleared : ∀ t, SlotActs b n t (clearMotion b n t) := by
    intro t
    unfold clearMotion
    dsimp only
    split
    · exact (Relation.ReflTransGen.single (.write t _ fun _ => rfl)).tail (.leave _)
    · exact .single (.write t _ fun _ => rfl)
  unfold faultTest
  split
  · split
    · exact ((Relation.ReflTransGen.single (.write s _ fun _ => rfl)).trans (cleared _)).tail (.raise _ _ rfl)
    · exact .refl
  · split
    · exact .single (.write s _ fun _ => rfl)
    · exact .refl

theorem changedFault_acts : SlotActs b n s (changedFault b n s) := by
  unfold changedFault
  split
  · exact faultTest_acts b n s
  · exact .single (.write s _ fun _ => rfl)

theorem completeSlot_acts (x : Bool) (old : Bank) : SlotActs b n s (completeSlot x old b n s) := by
  unfold completeSlot
  split
  · exact ((modSlot_acts b n s fun _ => by rfl).tail (.withdraw _ _)).trans (changedFault_acts b n _)
  · exact keptSlot_acts b n s old

end

end Sys2Proof.Machine
end

section
/-!
SUPPORT. The record of a slot after the completion of a switch: a kept slot is classified and forecast afresh, a changed
one is reset with its fault decided in the new bank (R13 to R16). Each operation's effect on the record is stated once,
as a function of the record, the held-back flag aside.
-/

namespace Sys2Proof.Machine

/-! ## Records that agree but for the held-back flag -/

theorem SameButHeld.eq {v w : SlotLive} (h : SameButHeld v w) : w = { v with held := w.held } := Eq.symm h

theorem SameButHeld.exists_held {v w : SlotLive} (h : SameButHeld v w) : ∃ k, w = { v with held := k } :=
  ⟨w.held, h.eq⟩

/-- Work on the record that neither reads nor writes the held-back flag keeps records alike. -/
theorem SameButHeld.map {f : SlotLive → SlotLive} (h : ∀ v k, f { v with held := k } = { f v with held := k })
    {v w : SlotLive} (same : SameButHeld v w) : SameButHeld (f v) (f w) := by
  obtain ⟨k, rfl⟩ := same.exists_held
  rw [h v k]
  exact .of_held _ _

/-- A slot's record written beside the alert queue. -/
theorem SameButHeld.modSlot {s : State} {n : Slot} {v : SlotLive} (same : SameButHeld v (s.slot n))
    {f : SlotLive → SlotLive} (h : ∀ v k, f { v with held := k } = { f v with held := k }) :
    SameButHeld (f v) ((s.modSlot n f).slot n) := by
  rw [State.slot_modSlot_self]
  exact same.map h

/-! ## What a switch completion makes of a kept slot's record -/

/-- The window and the streak of a kept slot (R15). -/
def SlotLive.keptWindow (old new : Bank) (n : Slot) (v : SlotLive) : SlotLive :=
  { v with
    window := if windowSettingsDiffer old new n then none else v.window
    streak := min v.streak (new.cfg n).ambiguity.toNat }

/-- The record after the stock evaluation of its count at a minute (R77, R82). -/
def SlotLive.evaluated (cfg : SlotCfg) (minute : Word) (v : SlotLive) : SlotLive :=
  match v.count with
  | none => v
  | some c =>
    let new := classify cfg.reorder.toNat cfg.clear.toNat c v.stock
    if new = v.stock then v else v.transit new (minute + BitVec.ofNat 32 cfg.interval.toNat)

/-- The record after the restart of its forecast window (R105). -/
def SlotLive.restarted (cfg : SlotCfg) (v : SlotLive) : SlotLive :=
  { v with
    removedSum := 0
    rate := none
    elapsed := if cfg.forecast ≠ 0 && v.count.isSome then some 0 else none
    projection := Config.noProjection
    armed := if cfg.lead.toNat < Config.noProjection then true else v.armed }

/-- The stock part of a kept slot: evaluated when the slot is enabled and not UNKNOWN (R15). -/
def SlotLive.keptStock (cfg : SlotCfg) (minute : Word) (v : SlotLive) : SlotLive :=
  if cfg.enabled && v.stock ≠ .unknown then v.evaluated cfg minute else v

/-- The record of a kept slot after the completion (R15). -/
def SlotLive.keptRecord (old new : Bank) (n : Slot) (minute : Word) (v : SlotLive) : SlotLive :=
  let v := (v.keptWindow old new n).keptStock (new.cfg n) minute
  if (old.cfg n).forecast ≠ (new.cfg n).forecast then v.restarted (new.cfg n) else v

theorem evaluated_of_none {cfg : SlotCfg} {minute : Word} {v : SlotLive} (h : v.count = none) :
    v.evaluated cfg minute = v := by
  unfold SlotLive.evaluated
  rw [h]

theorem evaluated_of_count {cfg : SlotCfg} {minute : Word} {v : SlotLive} {c : Nat} (h : v.count = some c) :
    v.evaluated cfg minute = if classify cfg.reorder.toNat cfg.clear.toNat c v.stock = v.stock then v
      else v.transit (classify cfg.reorder.toNat cfg.clear.toNat c v.stock)
        (minute + BitVec.ofNat 32 cfg.interval.toNat) := by
  unfold SlotLive.evaluated
  rw [h]

theorem evaluated_held (cfg : SlotCfg) (minute : Word) (v : SlotLive) (k : Option AlertKind) :
    SlotLive.evaluated cfg minute { v with held := k } = { v.evaluated cfg minute with held := k } := by
  obtain none | ⟨c, count⟩ := Option.eq_none_or_eq_some v.count
  · rw [evaluated_of_none (v := { v with held := k }) none, evaluated_of_none none]
  · rw [evaluated_of_count (v := { v with held := k }) count, evaluated_of_count count]
    dsimp only
    split <;> rfl

theorem keptStock_held (cfg : SlotCfg) (minute : Word) (v : SlotLive) (k : Option AlertKind) :
    SlotLive.keptStock cfg minute { v with held := k } = { v.keptStock cfg minute with held := k } := by
  unfold SlotLive.keptStock
  dsimp only
  split
  · exact evaluated_held cfg minute v k
  · rfl

theorem keptRecord_held (old new : Bank) (n : Slot) (minute : Word) (v : SlotLive) (k : Option AlertKind) :
    SlotLive.keptRecord old new n minute { v with held := k } = { v.keptRecord old new n minute with held := k } := by
  have stock := keptStock_held (new.cfg n) minute (v.keptWindow old new n) k
  have window : SlotLive.keptWindow old new n { v with held := k } = { v.keptWindow old new n with held := k } := rfl
  unfold SlotLive.keptRecord
  rw [window, stock]
  dsimp only
  split <;> rfl

theorem stockEvaluate_slot (b : Bank) (n : Slot) (s : State) :
    SameButHeld ((s.slot n).evaluated (b.cfg n) s.minute) ((stockEvaluate b n s).slot n) := by
  unfold stockEvaluate SlotLive.evaluated
  cases (s.slot n).count with
  | none => exact .refl _
  | some c =>
    dsimp only
    split
    · exact .refl _
    · generalize classify _ _ _ _ = new
      have written : SameButHeld ((s.slot n).transit new (freshDeadline b n s))
          ((s.modSlot n fun v => v.transit new (freshDeadline b n s)).slot n) := by
        rw [State.slot_modSlot_self]
        exact .refl _
      unfold transition
      dsimp only
      split
      · split
        · exact written
        · exact written.trans ((raiseStock_onlyAlerts b n _ _).slot n)
      · exact written

/-- Without a rate there is no projection, and the forecast is armed below the largest lead (R100, R101). -/
theorem recompute_slot_of_no_rate {b : Bank} {n : Slot} {s : State} (rate : (s.slot n).rate = none) :
    (recompute b n s).slot n = { s.slot n with
      projection := Config.noProjection
      armed := if (b.cfg n).lead.toNat < Config.noProjection then true else (s.slot n).armed } := by
  have projection : projectionOf (s.slot n).count (b.cfg n).forecast.toNat (s.slot n).rate = Config.noProjection := by
    rw [rate]
    unfold projectionOf
    cases (s.slot n).count <;> rfl
  have quiet : ∀ t : State, (t.slot n).rate = none → mayForecast n t = false := fun t none => by
    simp [mayForecast, none]
  unfold recompute arming
  dsimp only
  rw [quiet _ (by rw [State.slot_modSlot_self]; exact rate)]
  simp only [State.slot_modSlot_self, projection, Bool.false_eq_true, if_false]
  split
  · rw [State.slot_modSlot_self, State.slot_modSlot_self, projection]
  · rw [State.slot_modSlot_self, projection]

theorem restartForecast_slot (b : Bank) (n : Slot) (s : State) :
    (restartForecast b n s).slot n = (s.slot n).restarted (b.cfg n) := by
  unfold restartForecast
  rw [recompute_slot_of_no_rate (by rw [State.slot_modSlot_self]), State.slot_modSlot_self]
  rfl

theorem keptSlot_slot (old new : Bank) (n : Slot) (s : State) :
    SameButHeld ((s.slot n).keptRecord old new n s.minute) ((keptSlot old new n s).slot n) := by
  have window : (s.modSlot n (·.keptWindow old new n)).slot n = (s.slot n).keptWindow old new n :=
    State.slot_modSlot_self s n _
  have stock : SameButHeld (((s.slot n).keptWindow old new n).keptStock (new.cfg n) s.minute)
      ((if (new.cfg n).enabled && ((s.modSlot n (·.keptWindow old new n)).slot n).stock ≠ .unknown then
        stockEvaluate new n (s.modSlot n (·.keptWindow old new n)) else s.modSlot n (·.keptWindow old new n)).slot n) := by
    unfold SlotLive.keptStock
    rw [← window]
    split
    · exact stockEvaluate_slot new n _
    · exact .refl _
  unfold keptSlot SlotLive.keptRecord
  dsimp only
  split
  · rw [restartForecast_slot]
    exact stock.map fun v k => rfl
  · exact stock

/-! ## The fields of a kept slot's record -/

section
variable (old new : Bank) (n : Slot) (minute : Word) (v : SlotLive)

/-- The stock part of a kept slot is left as it is or makes one transition. -/
theorem keptStock_cases (cfg : SlotCfg) :
    v.keptStock cfg minute = v ∨ ∃ after deadline, v.keptStock cfg minute = v.transit after deadline := by
  unfold SlotLive.keptStock SlotLive.evaluated
  split
  · split
    · exact .inl rfl
    · dsimp only
      split
      · exact .inl rfl
      · exact .inr ⟨_, _, rfl⟩
  · exact .inl rfl

/-- The stock part leaves the rest of the record alone. -/
theorem keptStock_frame (cfg : SlotCfg) : v.keptStock cfg minute = { v with
    stock := (v.keptStock cfg minute).stock, acked := (v.keptStock cfg minute).acked
    deadline := (v.keptStock cfg minute).deadline, armed := (v.keptStock cfg minute).armed } := by
  obtain same | ⟨after, deadline, moved⟩ := keptStock_cases minute v cfg
  · rw [same]
  · rw [moved]
    rfl

theorem transit_armed (after : StockState) (deadline : Word) : (v.transit after deadline).armed
    = if v.stock.short ∧ after = .stocked then true else v.armed := by
  unfold SlotLive.transit
  by_cases recovers : v.stock.short = true ∧ after = .stocked
  · rw [if_pos recovers]
    simp [recovers]
  · have no : (v.stock.short && decide (after = .stocked)) = false := by
      rw [← Bool.not_eq_true, Bool.and_eq_true, decide_eq_true_eq]
      exact recovers
    rw [if_neg recovers]
    simp [no]

/-- A recovery arms the forecast (R103). -/
theorem keptStock_armed (cfg : SlotCfg) : (v.keptStock cfg minute).armed
    = if v.stock.short ∧ (v.keptStock cfg minute).stock = .stocked then true else v.armed := by
  obtain same | ⟨after, deadline, moved⟩ := keptStock_cases minute v cfg
  · rw [same, if_neg]
    rintro ⟨short, stocked⟩
    rw [stocked] at short
    cases short
  · rw [moved]
    exact transit_armed v after deadline

/-- The stock state of an evaluated count, with the flags of Table 5-7. -/
theorem keptStock_evaluated {cfg : SlotCfg} {c : Nat} (enabled : cfg.enabled = true) (known : v.stock ≠ .unknown)
    (count : v.count = some c) :
    let before := v.stock
    let after := classify cfg.reorder.toNat cfg.clear.toNat c before
    (v.keptStock cfg minute).stock = after
    ∧ (v.keptStock cfg minute).acked = (if after = before ∨ (before = .empty ∧ after = .low) then v.acked else false)
    ∧ (v.keptStock cfg minute).deadline = if after = before then v.deadline
        else if after = .stocked then none
        else if before = .empty ∧ after = .low then v.deadline
        else some (minute + BitVec.ofNat 32 cfg.interval.toNat) := by
  have known' : classify cfg.reorder.toNat cfg.clear.toNat c v.stock ≠ .unknown := by
    unfold classify
    repeat' split
    all_goals decide
  unfold SlotLive.keptStock SlotLive.evaluated
  rw [enabled, if_pos (by simpa using known), count]
  dsimp only
  generalize classify cfg.reorder.toNat cfg.clear.toNat c v.stock = after at known' ⊢
  by_cases same : after = v.stock
  · simp [same]
  · rw [if_neg same, if_neg same]
    refine ⟨rfl, ?_, ?_⟩
    · simp only [SlotLive.transit, ackedAfter, same, false_or]
    · cases after with
      | unknown => exact absurd rfl known'
      | stocked => rfl
      | low => simp [SlotLive.transit, deadlineAfter]
      | empty => simp [SlotLive.transit, deadlineAfter]

/-- A slot that is disabled or UNKNOWN is not evaluated (R15). -/
theorem keptStock_skipped {cfg : SlotCfg} (h : cfg.enabled = false ∨ v.stock = .unknown) :
    v.keptStock cfg minute = v := by
  unfold SlotLive.keptStock
  rw [if_neg]
  obtain disabled | unknown := h
  · simp [disabled]
  · simp [unknown]

end

end Sys2Proof.Machine
end

section
/-!
SUPPORT. A changed slot at the completion of a switch: its record with the fault decided in the new bank, and its part
of the alert queue, where nothing but a FAULT is left (R14).
-/

namespace Sys2Proof.Machine

/-! ## The fault of a changed slot -/

/-- The fault of a slot after the fault test (R34). -/
def faultVerdict (b : Bank) (n : Slot) (s : State) (old : Option FaultReason) : Option FaultReason :=
  match old with
  | none => if faultCondition b n s then some (faultReasonOf b n s) else none
  | some r => if clearCondition b n s then none else some r

/-- The fault of a changed slot (R14). -/
def changedVerdict (b : Bank) (n : Slot) (s : State) (old : Option FaultReason) : Option FaultReason :=
  if (b.cfg n).enabled && !(b.liveMembers n).isEmpty then faultVerdict b n s old else none

/-- The record of a changed slot (R14). -/
def SlotLive.changed (fault : Option FaultReason) (v : SlotLive) : SlotLive :=
  { v.toUnknown with fresh := 0, fault := fault }

theorem changed_held (fault : Option FaultReason) (v : SlotLive) (k : Option AlertKind) :
    SlotLive.changed fault { v with held := k } = { v.changed fault with held := k } := rfl

/-- The fault test reads channels and nodes, which visits leave alone. -/
theorem changedVerdict_visit {s t : State} (h : VisitFrame s t) (b : Bank) (n : Slot) (old : Option FaultReason) :
    changedVerdict b n t old = changedVerdict b n s old := by
  have onset : faultCondition b n t = faultCondition b n s := by simp only [faultCondition, h.node, h.chan]
  have clear : clearCondition b n t = clearCondition b n s := by simp only [clearCondition, h.node, h.chan]
  have reason : faultReasonOf b n t = faultReasonOf b n s := by simp only [faultReasonOf, h.node]
  unfold changedVerdict faultVerdict
  rw [onset, clear, reason]

/-- The fault test of a slot without window, motion or samples decides its fault and touches nothing else. -/
theorem faultTest_slot {b : Bank} {n : Slot} {s : State} {v : SlotLive}
    (reset : SameButHeld (v.changed v.fault) (s.slot n)) :
    SameButHeld (v.changed (faultVerdict b n s v.fault)) ((faultTest b n s).slot n) := by
  obtain ⟨k, slot⟩ := reset.exists_held
  have fault : (s.slot n).fault = v.fault := by rw [slot]; rfl
  unfold faultTest faultVerdict
  rw [fault]
  cases old : v.fault with
  | none =>
    dsimp only
    split
    · unfold faultOnset
      refine SameButHeld.trans ?_ ((raiseAlert_onlyAlerts b _ _).slot n)
      rw [clearMotion_slot, State.slot_modSlot_self, slot]
      exact .of_held _ k
    · rw [← old]
      exact reset
  | some r =>
    dsimp only
    split
    · unfold faultClear
      rw [State.slot_modSlot_self, slot]
      exact .of_held _ k
    · rw [← old]
      exact reset

theorem changedSlot_slot (new : Bank) (n : Slot) (s : State) :
    SameButHeld ((s.slot n).changed (changedVerdict new n s (s.slot n).fault)) ((changedSlot new n s).slot n) := by
  have reset : SameButHeld ((s.slot n).changed (s.slot n).fault)
      ((withdrawSlot new n (fun k => k ≠ .fault) (s.modSlot n fun v => { v.toUnknown with fresh := 0 })).slot n) := by
    refine SameButHeld.trans ?_ ((withdrawSlot_onlyAlerts new n _ _).slot n)
    rw [State.slot_modSlot_self]
    exact .refl _
  have frame : VisitFrame s
      (withdrawSlot new n (fun k => k ≠ .fault) (s.modSlot n fun v => { v.toUnknown with fresh := 0 })) :=
    ((modSlot_onlySlot s n _).visit.trans ((withdrawSlot_onlyAlerts new n _ _).visit n)).frame
  rw [← changedVerdict_visit frame]
  unfold changedSlot changedFault changedVerdict
  dsimp only
  split
  · exact faultTest_slot reset
  · obtain ⟨k, slot⟩ := reset.exists_held
    rw [State.slot_modSlot_self, slot]
    exact .of_held _ k

/-- The fault decided for a changed slot, in the words of R34. -/
theorem changedVerdict_eq (b : Bank) (n : Slot) (s : State) (old : Option FaultReason) :
    let silent := ∃ p ∈ b.liveMembers n, (s.node (nodeOf p.1)).state = .silent
    let bad := ∃ p ∈ b.liveMembers n, (s.chan p.1).badStreak = 3
    let clear := ∀ p ∈ b.liveMembers n, (s.node (nodeOf p.1)).state = .alive ∧ (s.chan p.1).badStreak = 0
    changedVerdict b n s old = if (b.cfg n).enabled = false ∨ b.liveMembers n = [] then none
      else if old.isSome then (if clear then none else old)
      else if silent then some .nodeSilent else if bad then some .badSamples else none := by
  intro silent bad clear
  have hsilent : ((b.liveMembers n).any fun p => (s.node (nodeOf p.1)).state = .silent) = true ↔ silent := by
    simp [silent]
  have hcondition : faultCondition b n s = true ↔ silent ∨ bad := by
    simp only [faultCondition, List.any_eq_true, Bool.or_eq_true, decide_eq_true_eq, silent, bad, and_or_left, exists_or]
  have hclear : clearCondition b n s = true ↔ clear := by
    simp only [clearCondition, List.all_eq_true, Bool.and_eq_true, decide_eq_true_eq, clear]
  have hlive : ((b.cfg n).enabled && !(b.liveMembers n).isEmpty) = true
      ↔ ¬ ((b.cfg n).enabled = false ∨ b.liveMembers n = []) := by
    simp
  unfold changedVerdict
  by_cases off : (b.cfg n).enabled = false ∨ b.liveMembers n = []
  · rw [if_pos off, if_neg (fun on => hlive.mp on off)]
  · rw [if_neg off, if_pos (hlive.mpr off)]
    cases old with
    | some r =>
      simp only [faultVerdict, Option.isSome_some, if_true, hclear]
    | none =>
      simp only [faultVerdict, faultReasonOf, Option.isSome_none, Bool.false_eq_true, if_false, hcondition, hsilent]
      by_cases s1 : silent
      · rw [if_pos (.inl s1), if_pos s1, if_pos s1]
      · by_cases b1 : bad
        · rw [if_pos (.inr b1), if_neg s1, if_neg s1, if_pos b1]
        · rw [if_neg (not_or.mpr ⟨s1, b1⟩), if_neg s1, if_neg b1]

/-! ## The alerts of a changed slot -/

/-- The alert queue holds nothing of slot `n` but a FAULT. -/
structure FaultOnly (n : Slot) (s : State) : Prop where
  apart : HeldApart n s
  entry : ∀ e, s.entry (.slot n) = some e → e.alert.kind = .fault
  held : ∀ k, (s.slot n).held = some k → k = .fault

theorem FaultOnly.of_free {n : Slot} {s : State} (free : (s.slot n).held = none)
    (entry : ∀ e, s.entry (.slot n) = some e → e.alert.kind = .fault) : FaultOnly n s where
  apart held := absurd free held
  entry := entry
  held k hk := by
    rw [free] at hk
    cases hk

theorem FaultOnly.of_no_entry {n : Slot} {s : State} (none : s.entry (.slot n) = none)
    (held : ∀ k, (s.slot n).held = some k → k = .fault) : FaultOnly n s where
  apart _ := none
  entry e he := by
    rw [none] at he
    cases he
  held := held

/-- A slot with a queued entry is not held back. -/
theorem HeldApart.free {n : Slot} {s : State} (apart : HeldApart n s) {e : AlertEntry}
    (entry : s.entry (.slot n) = some e) : (s.slot n).held = none := by
  by_contra held
  rw [apart held] at entry
  cases entry

/-- The entry of a slot that has one, beside other work. -/
theorem Beside.isSome {n : Slot} {s t : State} (h : Beside n s t) (apart : HeldApart n s)
    (queued : (s.entry (.slot n)).isSome = true) : (t.entry (.slot n)).isSome = true := by
  obtain ⟨e, entry⟩ := Option.isSome_iff_exists.mp queued
  rw [(h.of_not_held (apart.free entry)).1]
  exact queued

theorem Beside.faultOnly {n : Slot} {s t : State} (h : Beside n s t) (only : FaultOnly n s) : FaultOnly n t := by
  obtain ⟨apart, ⟨entry, held⟩ | ⟨e, held, entry, gone⟩⟩ := h only.apart
  · exact ⟨apart, entry ▸ only.entry, held ▸ only.held⟩
  · refine .of_free gone fun e' h' => ?_
    rw [entry] at h'
    cases h'
    exact only.held _ held

/-- The withdrawal of a slot's alerts but FAULT leaves nothing but a FAULT, and leaves a FAULT that is queued. -/
theorem withdrawSlot_faultOnly {b : Bank} {n : Slot} {s : State} (apart : HeldApart n s) :
    FaultOnly n (withdrawSlot b n (fun k => k ≠ .fault) s)
    ∧ ∀ e, s.entry (.slot n) = some e → e.alert.kind = .fault →
      ((withdrawSlot b n (fun k => k ≠ .fault) s).entry (.slot n)).isSome = true := by
  unfold withdrawSlot
  cases entry : s.entry (.slot n) with
  | none =>
    refine ⟨?_, nofun⟩
    dsimp only
    split
    · exact .of_free (congrArg SlotLive.held (State.slot_modSlot_self s n _)) fun e he => by
        rw [show s.entry (.slot n) = some e from he] at entry
        cases entry
    · next kept =>
      refine .of_no_entry entry fun k hk => ?_
      by_contra other
      exact kept (by rw [hk]; simpa using other)
  | some e =>
    have free := apart.free entry
    dsimp only
    split
    · next other =>
      have left : Beside n (s.setAlerts (without (.slot n) s.alerts)) (withdraw b (.slot n) s) := by
        unfold withdraw
        rw [entry]
        exact reoffer_beside b n _
      obtain ⟨none, gone⟩ := left.of_not_held free
      rw [if_neg (by rw [gone]; decide)]
      refine ⟨.of_no_entry (none.trans (entryIn_without_self _ _)) fun k hk => ?_, ?_⟩
      · rw [gone] at hk
        cases hk
      · rintro _ ⟨⟩ fault
        rw [fault] at other
        cases other
    · next fault =>
      rw [if_neg (by rw [free]; decide)]
      refine ⟨.of_free free fun e' he => ?_, fun _ _ _ => by rw [entry]; rfl⟩
      rw [entry] at he
      cases he
      simpa using fault

/-- An entry replaced in its place is the entry of its key. -/
theorem entryIn_replace_self {k : AlertKey} {e old : AlertEntry} (key : e.alert.key = k) {q : List AlertEntry}
    (h : entryIn k q = some old) : entryIn k (q.map fun x => if x.alert.key = k then e else x) = some e := by
  subst key
  induction q with
  | nil => cases h
  | cons x q ih =>
    rw [List.map_cons]
    by_cases here : x.alert.key = e.alert.key
    · rw [if_pos here, entryIn_cons_self]
    · rw [entryIn_cons_ne here] at h
      rw [if_neg here, entryIn_cons_ne here, ih h]

/-- A FAULT raised for the slot leaves nothing but a FAULT. -/
theorem raiseFault_faultOnly {b : Bank} {n : Slot} {s : State} {a : Alert} (key : a.key = .slot n)
    (kind : a.kind = .fault) (only : FaultOnly n s) : FaultOnly n (raiseAlert b a s)
      ∧ ((s.entry (.slot n)).isSome = true → ((raiseAlert b a s).entry (.slot n)).isSome = true) := by
  -- A new entry of the slot, which is not held back then.
  have queued : ∀ (t : State) (u : Bool), t.entry (.slot n) = some ⟨a, u⟩ → (t.slot n).held = none →
      FaultOnly n t ∧ ((s.entry (.slot n)).isSome = true → (t.entry (.slot n)).isSome = true) := by
    intro t u entry free
    refine ⟨.of_free free fun e he => ?_, fun _ => by rw [entry]; rfl⟩
    rw [entry] at he
    cases he
    exact kind
  -- The slot held back with FAULT and not queued.
  have heldBack : s.entry (.slot n) = none → ∀ (t : State) (k : Option AlertKind), t.entry (.slot n) = none →
      (t.slot n).held = k → (∀ x, k = some x → x = .fault) →
      FaultOnly n t ∧ ((s.entry (.slot n)).isSome = true → (t.entry (.slot n)).isSome = true) := by
    intro was t k entry held fault
    refine ⟨.of_no_entry entry fun x hx => fault x (held.symm.trans hx), ?_⟩
    rw [was]
    nofun
  unfold raiseAlert
  split
  · exact ⟨only, id⟩
  · rw [key]
    cases entry : s.entry (.slot n) with
    | some e =>
      have fault := only.entry e entry
      have free := only.apart.free entry
      rw [entry] at queued
      dsimp only
      unfold merge
      rw [if_neg (by rw [kind]; nofun), if_pos (by rw [fault, kind]), key]
      dsimp only
      split
      · exact queued _ _ (entryIn_replace_self (e := ⟨a, _⟩) key entry) free
      · exact queued _ _ (entryIn_joinTail_self (e := ⟨a, _⟩) key (entryIn_without_self _ _)) free
    | none =>
      rw [entry] at queued
      have heldBack := heldBack entry
      rw [entry] at heldBack
      dsimp only
      unfold raiseNew
      rw [key]
      dsimp only
      split
      · next h held =>
        refine heldBack _ _ entry (congrArg SlotLive.held (State.slot_modSlot_self s n _)) ?_
        rw [only.held h held, kind]
        rintro _ ⟨⟩
        rfl
      · next free =>
        unfold place
        split
        · exact queued _ _ (entryIn_joinTail_self (e := ⟨a, _⟩) key entry) free
        · rw [key]
          refine heldBack _ _ entry (congrArg SlotLive.held (State.slot_modSlot_self _ n _)) ?_
          rw [kind]
          rintro _ ⟨⟩
          rfl

end Sys2Proof.Machine
end

section
/-!
SUPPORT. The completion of a switch as a whole: the record and the alerts of every slot when all have been visited.
Settles O47.
-/

namespace Sys2Proof.Machine

/-! ## The alerts of a changed slot when all slots have been visited -/

/-- Writing a slot's record beside the alert queue. -/
theorem modSlot_beside_self (n : Slot) (s : State) {f : SlotLive → SlotLive} (h : ∀ v, (f v).held = v.held) :
    Beside n s (s.modSlot n f) :=
  .of_same rfl (by rw [State.slot_modSlot_self, h])

theorem clearMotion_beside_self (b : Bank) (n : Slot) (s : State) : Beside n s (clearMotion b n s) := by
  refine .of_same ?_ (by rw [clearMotion_slot])
  unfold clearMotion
  dsimp only
  split
  · obtain ⟨l, p, left⟩ := leaveMotion_eq b n (s.modSlot n fun v => { v with motion := none, motionReported := false })
    rw [left]
    rfl
  · rfl

theorem changedFault_faultOnly {b : Bank} {n : Slot} {s : State} (only : FaultOnly n s) :
    FaultOnly n (changedFault b n s)
    ∧ ((s.entry (.slot n)).isSome = true → ((changedFault b n s).entry (.slot n)).isSome = true) := by
  have beside : ∀ t, Beside n s t →
      FaultOnly n t ∧ ((s.entry (.slot n)).isSome = true → (t.entry (.slot n)).isSome = true) := fun t h =>
    ⟨h.faultOnly only, h.isSome only.apart⟩
  unfold changedFault
  split
  · unfold faultTest
    split
    · split
      · have cleared := (modSlot_beside_self n s (f := fun v =>
            { v with fault := some (faultReasonOf b n s), fresh := 0, window := none }) fun _ => rfl).trans
          (clearMotion_beside_self b n _)
        obtain ⟨only', queued⟩ := beside _ cleared
        obtain ⟨only'', raised⟩ := raiseFault_faultOnly (b := b)
          (a := slotAlert b n .fault (faultReasonOf b n s).alertReason _ none _) rfl rfl only'
        exact ⟨only'', fun h => raised (queued h)⟩
      · exact ⟨only, id⟩
    · split
      · exact beside _ (modSlot_beside_self n s fun _ => rfl)
      · exact ⟨only, id⟩
  · exact beside _ (modSlot_beside_self n s fun _ => rfl)

theorem changedSlot_faultOnly {b : Bank} {n : Slot} {s : State} (apart : HeldApart n s) :
    FaultOnly n (changedSlot b n s)
    ∧ ∀ e, s.entry (.slot n) = some e → e.alert.kind = .fault →
      ((changedSlot b n s).entry (.slot n)).isSome = true := by
  obtain ⟨apart', -⟩ := modSlot_beside_self n s (f := fun v => { v.toUnknown with fresh := 0 }) (fun _ => rfl) apart
  obtain ⟨only, kept⟩ := withdrawSlot_faultOnly (b := b) apart'
  obtain ⟨only', queued⟩ := changedFault_faultOnly (b := b) only
  exact ⟨only', fun e entry fault => queued (kept e entry fault)⟩

theorem foldl_beside (f : State → Slot → State) (b : Bank) (acts : ∀ s m, SlotActs b m s (f s m)) {n : Slot}
    {ns : List Slot} (h : n ∉ ns) (s : State) : Beside n s (ns.foldl f s) := by
  induction ns generalizing s with
  | nil => exact .refl n s
  | cons m ns ih =>
    rw [List.mem_cons, not_or] at h
    exact ((acts s m).beside h.1).trans (ih h.2 _)

/-- A slot's turn among all slots. -/
theorem allSlots_split (n : Slot) : ∃ l r, allSlots = l ++ n :: r ∧ n ∉ l ∧ n ∉ r := by
  obtain ⟨l, r, split⟩ := List.append_of_mem (mem_allSlots n)
  have once := allSlots_nodup
  rw [split, List.nodup_append] at once
  obtain ⟨-, right, apart⟩ := once
  exact ⟨l, r, split, fun h => apart n h n (List.mem_cons_self ..) rfl, (List.nodup_cons.mp right).1⟩

theorem completeSlots_faultOnly {target : BankId} {s : State} {n : Slot}
    (changed : (s.store.serving.isNone || measurementDiffers s.acting (s.store.bank target) n) = true)
    (apart : HeldApart n s) :
    FaultOnly n (completeSlots target s)
    ∧ ∀ e, s.entry (.slot n) = some e → e.alert.kind = .fault →
      ((completeSlots target s).entry (.slot n)).isSome = true := by
  have acts := fun (u : State) (m : Slot) =>
    completeSlot_acts (s.store.bank target) m u s.store.serving.isNone s.acting
  obtain ⟨l, r, split, before, after⟩ := allSlots_split n
  have ahead := foldl_beside _ _ acts before s
  obtain ⟨apart', -⟩ := ahead apart
  have turn : ∀ u, completeSlot s.store.serving.isNone s.acting (s.store.bank target) n u
      = changedSlot (s.store.bank target) n u := fun u => if_pos changed
  obtain ⟨only, kept⟩ := changedSlot_faultOnly (b := s.store.bank target) apart'
  unfold completeSlots
  rw [split, List.foldl_append, List.foldl_cons, turn]
  have rest := foldl_beside _ _ acts after
    (changedSlot (s.store.bank target) n (l.foldl (fun s' n =>
      completeSlot s.store.serving.isNone s.acting (s.store.bank target) n s') s))
  refine ⟨rest.faultOnly only, fun e entry fault => rest.isSome only.apart (kept e ?_ fault)⟩
  rw [(ahead.of_not_held (apart.free entry)).1]
  exact entry

/-! ## The records -/

section
variable {target : BankId} {s : State} {n : Slot}

/-- When all slots have been visited, the record of each is what its own visit made of it. -/
theorem completeSlots_slot (target : BankId) (s : State) (n : Slot) :
    ∃ u, VisitFrame s u ∧ SameButHeld (s.slot n) (u.slot n)
      ∧ SameButHeld ((completeSlot s.store.serving.isNone s.acting (s.store.bank target) n u).slot n)
        ((completeSwitch target s).slot n) := by
  rw [completeSwitch_eq]
  exact foldl_visits_mem _ (fun s' m => completeSlot_visit _ _ _ m s') allSlots_nodup (mem_allSlots n) s

theorem completeSwitch_slot_kept
    (kept : (s.store.serving.isNone || measurementDiffers s.acting (s.store.bank target) n) = false) :
    SameButHeld ((s.slot n).keptRecord s.acting (s.store.bank target) n s.minute) ((completeSwitch target s).slot n) := by
  obtain ⟨u, frame, before, after⟩ := completeSlots_slot target s n
  unfold completeSlot at after
  rw [if_neg (by rw [kept]; decide)] at after
  have own := keptSlot_slot s.acting (s.store.bank target) n u
  rw [frame.minute] at own
  exact ((before.map (keptRecord_held _ _ n _)).trans own).trans after

theorem completeSwitch_slot_changed
    (changed : (s.store.serving.isNone || measurementDiffers s.acting (s.store.bank target) n) = true) :
    SameButHeld ((s.slot n).changed (changedVerdict (s.store.bank target) n s (s.slot n).fault))
      ((completeSwitch target s).slot n) := by
  obtain ⟨u, frame, before, after⟩ := completeSlots_slot target s n
  unfold completeSlot at after
  rw [if_pos changed] at after
  have own := changedSlot_slot (s.store.bank target) n u
  rw [changedVerdict_visit frame, before.fault] at own
  exact ((before.map (changed_held _)).trans own).trans after

end

/-- A slot is changed unless some bank serves and the slot measures alike in both banks (R13). -/
theorem kept_iff (serving : Option BankId) (old new : Bank) (n : Slot) :
    (serving.isNone || measurementDiffers old new n) = false ↔
      serving.isSome = true ∧ (old.cfg n).enabled = (new.cfg n).enabled
        ∧ (old.cfg n).unitWeight = (new.cfg n).unitWeight ∧ (old.cfg n).tare = (new.cfg n).tare
        ∧ old.members n = new.members n := by
  unfold measurementDiffers
  cases serving <;> simp [and_assoc]

theorem windowSettingsDiffer_eq_false_iff (old new : Bank) (n : Slot) : windowSettingsDiffer old new n = false ↔
    (old.cfg n).width = (new.cfg n).width ∧ (old.cfg n).threshold = (new.cfg n).threshold
      ∧ (old.cfg n).band = (new.cfg n).band := by
  unfold windowSettingsDiffer
  simp [and_assoc]

/-! ## O47 -/

/-- The fields of a kept slot's record, each from the record before the switch (R15, R103, R105). -/
theorem keptRecord_frame (old new : Bank) (n : Slot) (minute : Word) (v : SlotLive) :
    v.keptRecord old new n minute = { v with
      window := if (old.cfg n).width = (new.cfg n).width ∧ (old.cfg n).threshold = (new.cfg n).threshold
        ∧ (old.cfg n).band = (new.cfg n).band then v.window else none
      streak := min v.streak (new.cfg n).ambiguity.toNat
      stock := (v.keptRecord old new n minute).stock, acked := (v.keptRecord old new n minute).acked
      deadline := (v.keptRecord old new n minute).deadline
      removedSum := (v.keptRecord old new n minute).removedSum
      elapsed := (v.keptRecord old new n minute).elapsed, rate := (v.keptRecord old new n minute).rate
      projection := (v.keptRecord old new n minute).projection
      armed := (v.keptRecord old new n minute).armed } := by
  have window : (v.keptWindow old new n).window
      = if (old.cfg n).width = (new.cfg n).width ∧ (old.cfg n).threshold = (new.cfg n).threshold
        ∧ (old.cfg n).band = (new.cfg n).band then v.window else none := by
    unfold SlotLive.keptWindow
    dsimp only
    by_cases same : windowSettingsDiffer old new n = false
    · rw [same, if_pos ((windowSettingsDiffer_eq_false_iff old new n).mp same)]
      rfl
    · rw [if_pos (by simpa using same), if_neg fun h => same ((windowSettingsDiffer_eq_false_iff old new n).mpr h)]
  rw [← window]
  unfold SlotLive.keptRecord
  rw [keptStock_frame minute (v.keptWindow old new n) (new.cfg n)]
  dsimp only
  split <;> rfl

/-- The stock part of a kept slot's record does not depend on the forecast. -/
theorem keptRecord_stock (old new : Bank) (n : Slot) (minute : Word) (v : SlotLive) :
    (v.keptRecord old new n minute).stock = ((v.keptWindow old new n).keptStock (new.cfg n) minute).stock
    ∧ (v.keptRecord old new n minute).acked = ((v.keptWindow old new n).keptStock (new.cfg n) minute).acked
    ∧ (v.keptRecord old new n minute).deadline = ((v.keptWindow old new n).keptStock (new.cfg n) minute).deadline := by
  unfold SlotLive.keptRecord
  dsimp only
  split <;> exact ⟨rfl, rfl, rfl⟩

/-- The forecast of a kept slot, kept where L is the same in both banks and restarted where it differs (R15, R105). -/
theorem keptRecord_forecast (old new : Bank) (n : Slot) (minute : Word) (v : SlotLive) :
    let w := v.keptRecord old new n minute
    let armed := if v.stock.short ∧ w.stock = .stocked then true else v.armed
    if (old.cfg n).forecast = (new.cfg n).forecast then
      w.removedSum = v.removedSum ∧ w.elapsed = v.elapsed ∧ w.rate = v.rate ∧ w.projection = v.projection
        ∧ w.armed = armed
    else w.removedSum = 0 ∧ w.elapsed = (if (new.cfg n).forecast ≠ 0 ∧ v.count.isSome then some 0 else none)
      ∧ w.rate = none ∧ w.projection = 65535
      ∧ w.armed = if (new.cfg n).lead.toNat < 65535 then true else armed := by
  obtain ⟨stock, -, -⟩ := keptRecord_stock old new n minute v
  have armed := keptStock_armed minute (v.keptWindow old new n) (new.cfg n)
  have frame := keptStock_frame minute (v.keptWindow old new n) (new.cfg n)
  have count : ((v.keptWindow old new n).keptStock (new.cfg n) minute).count = v.count := by rw [frame]; rfl
  dsimp only
  rw [stock]
  unfold SlotLive.keptRecord
  by_cases same : (old.cfg n).forecast = (new.cfg n).forecast
  · rw [if_pos same, if_neg (not_not.mpr same)]
    exact ⟨by rw [frame]; rfl, by rw [frame]; rfl, by rw [frame]; rfl, by rw [frame]; rfl, armed⟩
  · rw [if_neg same, if_pos same]
    refine ⟨rfl, ?_, rfl, rfl, ?_⟩
    · unfold SlotLive.restarted
      dsimp only
      rw [count]
      simp only [Bool.and_eq_true, decide_eq_true_eq]
    · unfold SlotLive.restarted
      dsimp only
      rw [armed]
      rfl

/-- Settles O47. -/
theorem switchCompletesAtTheTurnAndKeepsUnchangedSlots :
    Obligations.SwitchCompletesAtTheTurnAndKeepsUnchangedSlots := by
  refine ⟨fun s target pending => ⟨fun last => ?_, fun inside => advanceRoster_step inside⟩,
    fun s idle => ⟨fun last => advanceRoster_turn (by omega) idle, fun inside => advanceRoster_step inside⟩,
    fun target s => ?_⟩
  · rw [advanceRoster_completes (by omega) pending, completeSwitch_eq]
    exact ⟨rfl, rfl, rfl, rfl⟩
  · intro old new t kept
    have keeps : ∀ n, kept n → SameButHeld ((s.slot n).keptRecord old new n s.minute) (t.slot n) := fun n k =>
      completeSwitch_slot_kept ((kept_iff _ _ _ n).mpr k)
    have changes : ∀ n, ¬ kept n → (s.store.serving.isNone || measurementDiffers old new n) = true := fun n k => by
      rw [← Bool.not_eq_false]
      exact fun h => k ((kept_iff _ _ _ n).mp h)
    have changed : ∀ n, ¬ kept n →
        SameButHeld ((s.slot n).changed (changedVerdict new n s (s.slot n).fault)) (t.slot n) := fun n k =>
      completeSwitch_slot_changed (changes n k)
    have whole := completeSwitch_eq target s
    have visited := completeSlots_frame target s
    refine ⟨by rw [show t = _ from whole], by rw [show t = _ from whole], ?_, ?_, ?_, ?_, ?_, fun n k => ?_,
      fun n k enabled known c count => ?_, fun n k skipped => ?_, fun n k => ?_, fun n k => ?_, fun n k => ?_,
      fun ⟨_, held, _⟩ n k => ?_⟩
    · rw [show t = _ from whole]; exact visited.chans
    · rw [show t = _ from whole]; exact visited.sessions
    · rw [show t = _ from whole]; exact visited.time
    · rw [show t = _ from whole]; exact visited.zones
    · rw [show t = _ from whole]; exact visited.link
    · obtain ⟨held, record⟩ := (keeps n k).exists_held
      rw [record, keptRecord_frame old new n s.minute (s.slot n)]
    · obtain ⟨stock, acked, deadline⟩ := keptRecord_stock old new n s.minute (s.slot n)
      dsimp only
      rw [(keeps n k).stock, (keeps n k).acked, (keeps n k).deadline, stock, acked, deadline]
      exact keptStock_evaluated s.minute ((s.slot n).keptWindow old new n) enabled known count
    · obtain ⟨stock, acked, deadline⟩ := keptRecord_stock old new n s.minute (s.slot n)
      rw [(keeps n k).stock, (keeps n k).acked, (keeps n k).deadline, stock, acked, deadline,
        keptStock_skipped s.minute ((s.slot n).keptWindow old new n) skipped]
      exact ⟨rfl, rfl, rfl⟩
    · dsimp only
      rw [(keeps n k).stock, (keeps n k).removedSum, (keeps n k).elapsed, (keeps n k).rate, (keeps n k).projection,
        (keeps n k).armed]
      exact keptRecord_forecast old new n s.minute (s.slot n)
    · obtain ⟨held, record⟩ := (changed n k).exists_held
      rw [record]
      rfl
    · dsimp only
      rw [(changed n k).fault]
      exact changedVerdict_eq new n s (s.slot n).fault
    · have apart : HeldApart n s := fun h => by
        obtain ⟨kind, h⟩ := Option.ne_none_iff_exists'.mp h
        obtain ⟨-, none, -⟩ := held n kind h
        exact none
      obtain ⟨only, stays⟩ := completeSlots_faultOnly (changes n k) apart
      rw [show t = _ from whole]
      exact ⟨only.entry, only.held, stays⟩

end Sys2Proof.Machine
end

section
/-!
SUPPORT. What a minute tick makes of the record of one slot: the repeat, the forecast window step, and the re-evaluation
at the close of a session that covers it (R85, R86, R98, R99, R117, R118).
-/

namespace Sys2Proof.Machine

/-! ## The slot engine's part -/

/-- The deadline after a repeat at this minute (R86). -/
def SlotLive.repeated (cfg : SlotCfg) (minute : Word) (v : SlotLive) : SlotLive :=
  { v with deadline := v.deadline.map fun d => advanceDeadline minute d cfg.interval.toNat }

theorem repeatStep_slot (b : Bank) (n : Slot) (s : State) :
    SameButHeld (if repeatDue b n s then (s.slot n).repeated (b.cfg n) s.minute else s.slot n)
      ((repeatStep b n s).slot n) := by
  unfold repeatStep
  split
  · unfold doRepeat
    have write : ∀ t : State, OnlyAlerts s t → SameButHeld ((s.slot n).repeated (b.cfg n) s.minute)
        ((t.modSlot n fun v => { v with
          deadline := v.deadline.map fun d => advanceDeadline t.minute d (b.cfg n).interval.toNat }).slot n) := by
      intro t raised
      rw [raised.minute]
      exact (raised.slot n).modSlot (f := SlotLive.repeated (b.cfg n) s.minute) fun _ _ => rfl
    dsimp only
    split
    · exact write _ (raiseStock_onlyAlerts b n _ s)
    · exact write s (.refl s)
  · exact .refl _

/-- The arming decision writes the armed flag, the alert queue aside. -/
theorem arming_slot (b : Bank) (n : Slot) (s : State) :
    ∃ x, SameButHeld { s.slot n with armed := x } ((arming b n s).slot n) := by
  unfold arming
  dsimp only
  split
  · exact ⟨true, by rw [State.slot_modSlot_self]; exact .refl _⟩
  · split
    · exact ⟨false, ((raiseAlert_onlyAlerts b _ s).slot n).modSlot (f := fun v => { v with armed := false }) fun _ _ => rfl⟩
    · exact ⟨(s.slot n).armed, .refl _⟩

/-- A recomputation writes the projection and the armed flag, the alert queue aside. -/
theorem recompute_slot (b : Bank) (n : Slot) (s : State) :
    ∃ p x, SameButHeld { s.slot n with projection := p, armed := x } ((recompute b n s).slot n) := by
  unfold recompute
  obtain ⟨x, written⟩ := arming_slot b n (s.modSlot n fun v =>
    { v with projection := projectionOf v.count (b.cfg n).forecast.toNat v.rate })
  rw [State.slot_modSlot_self] at written
  exact ⟨_, x, written⟩

/-- The forecast window of a slot has run its minutes with this tick (R98, R99). -/
def windowEnds (b : Bank) (n : Slot) (s : State) : Bool :=
  (s.slot n).elapsed.any fun e => (b.cfg n).forecast.toNat ≤ e + 1

theorem forecastStep_of_idle {b : Bank} {n : Slot} {s : State} (idle : (s.slot n).elapsed = none) :
    forecastStep b n s = s := by
  unfold forecastStep
  rw [idle]

theorem forecastStep_of_running {b : Bank} {n : Slot} {s : State} {e : Nat} (running : (s.slot n).elapsed = some e) :
    forecastStep b n s = if (b.cfg n).forecast.toNat ≤ e + 1
      then windowClose b n (s.modSlot n fun v => { v with elapsed := some (e + 1) })
      else s.modSlot n fun v => { v with elapsed := some (e + 1) } := by
  unfold forecastStep
  rw [running]

/-- The record after the slot engine's part of a minute tick; `due` says whether the slot repeats, `whole` whether a
completed window closes in the tick itself. -/
structure Ticked (whole : Bool) (cfg : SlotCfg) (minute : Word) (due : Bool) (v w : SlotLive) : Prop where
  frame : w = { v with
    deadline := w.deadline, removedSum := w.removedSum, elapsed := w.elapsed, rate := w.rate
    projection := w.projection, armed := w.armed, held := w.held }
  deadline : w.deadline = if due then v.deadline.map fun d => advanceDeadline minute d cfg.interval.toNat else v.deadline
  idle : v.elapsed = none → w.elapsed = none
  running : ∀ e, v.elapsed = some e →
    if whole = true ∧ cfg.forecast.toNat ≤ e + 1 then w.elapsed = some 0 ∧ w.rate = some v.removedSum ∧ w.removedSum = 0
    else w.elapsed = some (e + 1) ∧ w.rate = v.rate ∧ w.removedSum = v.removedSum

theorem Ticked.same_left {whole : Bool} {cfg : SlotCfg} {minute : Word} {due : Bool} {v v' w : SlotLive}
    (h : Ticked whole cfg minute due v w) (same : SameButHeld v' v) : Ticked whole cfg minute due v' w := by
  obtain ⟨k, rfl⟩ := same.exists_held
  obtain ⟨frame, deadline, idle, running⟩ := h
  exact ⟨frame, deadline, idle, running⟩

theorem Ticked.same_right {whole : Bool} {cfg : SlotCfg} {minute : Word} {due : Bool} {v w w' : SlotLive}
    (h : Ticked whole cfg minute due v w) (same : SameButHeld w w') : Ticked whole cfg minute due v w' := by
  obtain ⟨k, rfl⟩ := same.exists_held
  obtain ⟨frame, deadline, idle, running⟩ := h
  refine ⟨?_, deadline, idle, running⟩
  rw [frame]

theorem slotTick_slot (b : Bank) (n : Slot) (s : State) :
    Ticked true (b.cfg n) s.minute (repeatDue b n s) (s.slot n) ((slotTick b n s).slot n) := by
  have repeated := repeatStep_slot b n s
  obtain ⟨k, record⟩ := repeated.exists_held
  generalize held : (if repeatDue b n s then (s.slot n).repeated (b.cfg n) s.minute else s.slot n) = v at record
  have elapsed : v.elapsed = (s.slot n).elapsed := by rw [← held]; split <;> rfl
  have removed : v.removedSum = (s.slot n).removedSum := by rw [← held]; split <;> rfl
  have rate : v.rate = (s.slot n).rate := by rw [← held]; split <;> rfl
  have deadline : v.deadline = if repeatDue b n s then (s.slot n).deadline.map fun d =>
      advanceDeadline s.minute d (b.cfg n).interval.toNat else (s.slot n).deadline := by
    rw [← held]
    split <;> rfl
  have frame : v = { s.slot n with deadline := v.deadline } := by
    rw [← held]
    split <;> rfl
  unfold slotTick
  cases running : (s.slot n).elapsed with
  | none =>
    rw [forecastStep_of_idle (by rw [record]; exact elapsed.trans running), record]
    refine ⟨?_, deadline, fun _ => elapsed.trans running, fun e he => ?_⟩
    · rw [frame]
    · rw [running] at he
      cases he
  | some e =>
    rw [forecastStep_of_running (by rw [record]; exact elapsed.trans running)]
    split
    · next ends =>
      unfold windowClose
      obtain ⟨p, x, written⟩ := recompute_slot b n
        (((repeatStep b n s).modSlot n fun v => { v with elapsed := some (e + 1) }).modSlot n fun v =>
          { v with rate := some v.removedSum, removedSum := 0, elapsed := some 0 })
      rw [State.slot_modSlot_self, State.slot_modSlot_self, record] at written
      obtain ⟨j, closed⟩ := written.exists_held
      rw [closed]
      refine ⟨?_, deadline, fun none => ?_, fun e' he => ?_⟩
      · rw [frame]
      · rw [running] at none
        cases none
      · rw [running] at he
        cases he
        rw [if_pos ⟨rfl, ends⟩]
        exact ⟨rfl, congrArg some removed, rfl⟩
    · next goesOn =>
      rw [State.slot_modSlot_self, record]
      refine ⟨?_, deadline, fun none => ?_, fun e' he => ?_⟩
      · rw [frame]
      · rw [running] at none
        cases none
      · rw [running] at he
        cases he
        rw [if_neg fun h => goesOn h.2]
        exact ⟨rfl, rate, removed⟩

/-- The repeat test reads the slot's record, the minute and the sessions. -/
theorem repeatDue_congr {b : Bank} {n : Slot} {s t : State} (same : SameButHeld (s.slot n) (t.slot n))
    (minute : t.minute = s.minute) (covered : t.covered n = s.covered n) : repeatDue b n t = repeatDue b n s := by
  unfold repeatDue
  dsimp only
  rw [same.stock, same.acked, same.fault, same.deadline, minute, covered]

theorem windowEnds_congr {b : Bank} {n : Slot} {s t : State} (same : SameButHeld (s.slot n) (t.slot n)) :
    windowEnds b n t = windowEnds b n s := by
  unfold windowEnds
  rw [same.elapsed]

/-- The record of a slot after the slot engine's pass over all slots. -/
theorem slotsPass_slot (b : Bank) (n : Slot) (s : State) :
    Ticked true (b.cfg n) s.minute (repeatDue b n s) (s.slot n) ((slotsPass b s).slot n) := by
  obtain ⟨u, frame, before, after⟩ := foldl_visits_mem (fun s n => slotTick b n s)
    (fun s n => (slotTick_onlySlot b n s).visit) allSlots_nodup (mem_allSlots n) s
  have turn := slotTick_slot b n u
  rw [repeatDue_congr before frame.minute (frame.covered n), frame.minute] at turn
  exact (turn.same_left before).same_right after

/-! ## The re-evaluation at a close -/

/-- A close of a session over the slot writes the record as R117 and R118 say. -/
theorem closeSlot_slot (b : Bank) (n : Slot) (s : State) :
    SameButHeld ((s.slot n).closed (b.cfg n) s.minute) ((closeSlot b n s).slot n) := by
  have quiet : ∀ t : State, OnlyAlerts s t → ((b.cfg n).enabled && (s.slot n).stock.short) = false →
      SameButHeld ((s.slot n).closed (b.cfg n) s.minute) ((t.modSlot n fun v => { v with deficit := false }).slot n) := by
    intro t raised long
    unfold SlotLive.closed
    rw [if_neg (by rw [long]; decide)]
    exact (raised.slot n).modSlot (f := fun v => { v with deficit := false }) fun _ _ => rfl
  have short : ∀ t : State, OnlyAlerts (s.modSlot n fun v => { v with acked := false }) t →
      ((b.cfg n).enabled && (s.slot n).stock.short) = true →
      SameButHeld ((s.slot n).closed (b.cfg n) s.minute)
        (((t.modSlot n fun v => { v with deadline := some (freshDeadline b n t) }).modSlot n fun v =>
          { v with deficit := false }).slot n) := by
    intro t raised short
    have same := raised.slot n
    rw [State.slot_modSlot_self] at same
    have written := same.modSlot (f := fun v => { v with deadline := some (freshDeadline b n t) }) fun _ _ => rfl
    have fresh : freshDeadline b n t = s.minute + BitVec.ofNat 32 (b.cfg n).interval.toNat := by
      unfold freshDeadline
      rw [raised.minute]
      rfl
    unfold SlotLive.closed
    rw [if_pos short, ← fresh]
    exact written.modSlot (f := fun v => { v with deficit := false }) fun _ _ => rfl
  unfold closeSlot reevaluate
  dsimp only
  split
  · next disabled => exact quiet s (.refl s) (by rw [disabled]; rfl)
  · next enabled =>
    rw [Bool.not_eq_false] at enabled
    split
    · next unknown => exact quiet s (.refl s) (by rw [unknown]; simp [StockState.short])
    · next stocked =>
      split
      · exact quiet _ (raiseStock_onlyAlerts b n _ s) (by rw [stocked]; simp [StockState.short])
      · exact quiet s (.refl s) (by rw [stocked]; simp [StockState.short])
    · next known long =>
      have isShort : ((b.cfg n).enabled && (s.slot n).stock.short) = true := by
        rw [enabled]
        cases stock : (s.slot n).stock
        · exact absurd stock known
        · exact absurd stock long
        · rfl
        · rfl
      split
      · exact short _ (raiseStock_onlyAlerts b n _ _) isShort
      · exact short _ (.refl _) isShort

theorem closed_held (cfg : SlotCfg) (minute : Word) (v : SlotLive) (k : Option AlertKind) :
    SlotLive.closed { v with held := k } cfg minute = { v.closed cfg minute with held := k } := by
  unfold SlotLive.closed
  dsimp only
  split <;> rfl

/-- A second close at the same minute finds nothing to do. -/
theorem closed_closed (cfg : SlotCfg) (minute : Word) (v : SlotLive) :
    (v.closed cfg minute).closed cfg minute = v.closed cfg minute := by
  by_cases short : (cfg.enabled && v.stock.short) = true
  · have once : v.closed cfg minute = { v with
        acked := false, deadline := some (minute + BitVec.ofNat 32 cfg.interval.toNat), deficit := false } := if_pos short
    rw [once]
    exact if_pos short
  · have once : v.closed cfg minute = { v with deficit := false } := if_neg short
    rw [once]
    exact if_neg short

/-- A close writes the acknowledged flag, the deadline and the deficit-at-open flag. -/
theorem closed_frame (cfg : SlotCfg) (minute : Word) (v : SlotLive) : v.closed cfg minute = { v with
    acked := (v.closed cfg minute).acked, deadline := (v.closed cfg minute).deadline
    deficit := (v.closed cfg minute).deficit } := by
  unfold SlotLive.closed
  split <;> rfl

/-- A slot that does not repeat in this tick may be closed before or after its part of the tick. -/
theorem Ticked.closed {whole : Bool} {cfg : SlotCfg} {minute : Word} {v w : SlotLive} (h : Ticked whole cfg minute false v w) :
    Ticked whole cfg minute false (v.closed cfg minute) (w.closed cfg minute) := by
  obtain ⟨frame, deadline, idle, running⟩ := h
  have stock : w.stock = v.stock := by rw [frame]
  have deadline : w.deadline = v.deadline := deadline
  unfold SlotLive.closed
  rw [stock]
  split
  · refine ⟨?_, rfl, idle, running⟩
    rw [frame]
  · refine ⟨?_, deadline, idle, running⟩
    rw [frame]

end Sys2Proof.Machine
end

section
/-!
SUPPORT. What a minute tick makes of the sessions, and of the records and the rest of the state while sessions expire
(R116 to R118).
-/

namespace Sys2Proof.Machine

/-! ## What a minute tick leaves alone -/

/-- Only slot records, sessions, the alert queue and its overflow count may differ. -/
def TickFrame (s t : State) : Prop :=
  t = { s with
    slots := t.slots
    sessions := t.sessions
    alerts := t.alerts
    mgmt := { s.mgmt with
      counters := { s.mgmt.counters with queueOverflow := t.mgmt.counters.queueOverflow } } }

theorem TickFrame.refl (s : State) : TickFrame s s := rfl

theorem TickFrame.trans {s t u : State} (h : TickFrame s t) (k : TickFrame t u) : TickFrame s u := by
  unfold TickFrame at *
  rw [h] at k
  exact k

theorem TickFrame.foldl {α : Type} (f : State → α → State) (h : ∀ s x, TickFrame s (f s x)) (xs : List α)
    (s : State) : TickFrame s (xs.foldl f s) := by
  induction xs generalizing s with
  | nil => exact .refl s
  | cons x xs ih => exact (h s x).trans (ih _)

theorem TickFrame.minute {s t : State} (h : TickFrame s t) : t.minute = s.minute :=
  (congrArg (fun u : State => u.time.minutes) h :)

theorem TickFrame.now {s t : State} (h : TickFrame s t) : t.now = s.now :=
  (congrArg (fun u : State => u.time.seconds) h :)

theorem TickFrame.time {s t : State} (h : TickFrame s t) : t.time = s.time := (congrArg State.time h :)

theorem OnlySlot.tickFrame {n : Slot} {s t : State} (h : OnlySlot n s t) : TickFrame s t := by
  obtain ⟨frame, -⟩ := h
  unfold TickFrame
  rw [frame]

theorem slotsPass_tickFrame (b : Bank) (s : State) : TickFrame s (slotsPass b s) :=
  .foldl _ (fun s n => (slotTick_onlySlot b n s).tickFrame) _ s

/-! ## The close of one session -/

/-- The state in which the slots of an expiring session are re-evaluated: its record is free, LAPSED is raised. -/
def lapse (b : Bank) (id : SessionId) (r : Session) (s : State) : State :=
  raiseAlert b (lapsedAlert id r (s.setSession id none)) (s.setSession id none)

theorem closeSession_expired (b : Bank) (id : SessionId) (r : Session) (s : State) :
    closeSession b id r true s = (slotRange r.first r.last).foldl (fun s n => closeSlot b n s) (lapse b id r s) := rfl

theorem lapse_onlyAlerts (b : Bank) (id : SessionId) (r : Session) (s : State) :
    OnlyAlerts (s.setSession id none) (lapse b id r s) := raiseAlert_onlyAlerts b _ _

theorem closeSlots_visitFrame (b : Bank) (ns : List Slot) (s : State) :
    VisitFrame s (ns.foldl (fun s n => closeSlot b n s) s) :=
  foldl_visitFrame _ (fun s n => (closeSlot_onlySlot b n s).visit) ns s

theorem expireOne_tickFrame (b : Bank) (id : SessionId) (s : State) : TickFrame s (expireOne b id s) := by
  unfold expireOne
  split
  · next r _ =>
    split
    · rw [closeSession_expired]
      have free : TickFrame s (s.setSession id none) := rfl
      exact (free.trans ((lapse_onlyAlerts b id r s).onlySlot 0).tickFrame).trans
        (.foldl _ (fun s n => (closeSlot_onlySlot b n s).tickFrame) _ _)
    · exact .refl s
  · exact .refl s

theorem sessionsPass_tickFrame (b : Bank) (s : State) : TickFrame s (sessionsPass b s) :=
  .foldl _ (fun s id => expireOne_tickFrame b id s) _ s

/-- An expiry frees the record of its session and keeps the others. -/
theorem expireOne_session (b : Bank) (id j : SessionId) (s : State) : (expireOne b id s).session j =
    if j = id then (s.session j).filter (fun r => !reached s.minute r.deadline) else s.session j := by
  have closed : ∀ r, (closeSession b id r true s).session j = if j = id then none else s.session j := by
    intro r
    have sessions : (closeSession b id r true s).sessions = (s.setSession id none).sessions := by
      rw [closeSession_expired]
      exact (closeSlots_visitFrame b _ _).sessions.trans (lapse_onlyAlerts b id r s).sessions
    unfold State.session at *
    rw [sessions]
    simp only [State.setSession, Fin.getElem_fin, Vector.getElem_set, Fin.ext_iff, eq_comm]
  unfold expireOne
  split
  · next r open_ =>
    split
    · next due =>
      rw [closed]
      split
      · next here => rw [here, open_, Option.filter_some, due]; rfl
      · rfl
    · next later =>
      split
      · next here =>
        rw [Bool.not_eq_true] at later
        rw [here, open_, Option.filter_some, later]
        rfl
      · rfl
  · next free =>
    split
    · next here => simp [here, free]
    · rfl

/-- The sessions after the minute tick: those whose deadline is reached are free (R116). -/
theorem sessionsPass_session (b : Bank) (j : SessionId) (s : State) :
    (sessionsPass b s).session j = (s.session j).filter fun r => !reached s.minute r.deadline := by
  have walk : ∀ (ids : List SessionId) (s : State), (ids.foldl (fun s id => expireOne b id s) s).session j =
      if j ∈ ids then (s.session j).filter (fun r => !reached s.minute r.deadline) else s.session j := by
    intro ids
    induction ids with
    | nil => intro s; rfl
    | cons id ids ih =>
      intro s
      rw [List.foldl_cons, ih, expireOne_session, (expireOne_tickFrame b id s).minute]
      by_cases here : j = id
      · rw [if_pos here, if_pos (show j ∈ id :: ids from here ▸ List.mem_cons_self ..), Option.filter_filter]
        simp
      · rw [if_neg here]
        simp [here]
  exact (walk allSessions s).trans (if_pos (List.mem_finRange j))

/-- A slot is covered where some open session covers it. -/
theorem covered_iff (s : State) (n : Slot) :
    s.covered n = true ↔ ∃ id r, s.session id = some r ∧ r.covers n = true := by
  unfold State.covered State.coveringId
  rw [List.find?_isSome]
  simp only [allSessions, List.mem_finRange, true_and, Option.any_eq_true]

/-! ## The records while sessions expire -/

/-- The session expires with this tick and covers the slot. -/
def expiresOver (s : State) (n : Slot) (id : SessionId) : Bool :=
  (s.session id).any fun r => reached s.minute r.deadline && r.covers n

/-- The record of a slot, closed if a session that expires covers it. -/
def SlotLive.closedIf (expires : Bool) (cfg : SlotCfg) (minute : Word) (v : SlotLive) : SlotLive :=
  if expires then v.closed cfg minute else v

theorem closedIf_held (x : Bool) (cfg : SlotCfg) (minute : Word) (v : SlotLive) (k : Option AlertKind) :
    SlotLive.closedIf x cfg minute { v with held := k } = { v.closedIf x cfg minute with held := k } := by
  unfold SlotLive.closedIf
  split
  · exact closed_held cfg minute v k
  · rfl

theorem mem_slotRange (r : Session) (n : Slot) : n ∈ slotRange r.first r.last ↔ r.covers n = true := by
  simp [slotRange, Session.covers, mem_allSlots]

theorem expireOne_slot (b : Bank) (id : SessionId) (n : Slot) (s : State) :
    SameButHeld ((s.slot n).closedIf (expiresOver s n id) (b.cfg n) s.minute) ((expireOne b id s).slot n) := by
  unfold expireOne expiresOver
  cases s.session id with
  | none => exact .refl _
  | some r =>
    dsimp only [Option.any_some]
    split
    · next due =>
      have lapsed : SameButHeld (s.slot n) ((lapse b id r s).slot n) := (lapse_onlyAlerts b id r s).slot n
      have minute : (lapse b id r s).minute = s.minute := (lapse_onlyAlerts b id r s).minute
      rw [due, Bool.true_and, closeSession_expired]
      by_cases covers : r.covers n = true
      · obtain ⟨u, frame, before, after⟩ := foldl_visits_mem (fun s n => closeSlot b n s)
          (fun s n => (closeSlot_onlySlot b n s).visit) (allSlots_nodup.filter _) ((mem_slotRange r n).mpr covers)
          (lapse b id r s)
        have own := closeSlot_slot b n u
        rw [frame.minute, minute] at own
        rw [covers]
        exact (((lapsed.trans before).map (closed_held (b.cfg n) s.minute)).trans own).trans after
      · rw [Bool.not_eq_true] at covers
        have aside : n ∉ slotRange r.first r.last := fun h => by
          rw [mem_slotRange, covers] at h
          cases h
        rw [covers]
        exact lapsed.trans (foldl_visits_not_mem _ (fun s n => (closeSlot_onlySlot b n s).visit) aside _)
    · next later =>
      rw [Bool.not_eq_true] at later
      rw [later]
      exact .refl _

/-- The record of a slot after the sessions' part of a minute tick. -/
theorem sessionsPass_slot (b : Bank) (n : Slot) (s : State) :
    SameButHeld ((s.slot n).closedIf (allSessions.any (expiresOver s n)) (b.cfg n) s.minute)
      ((sessionsPass b s).slot n) := by
  have walk : ∀ ids : List SessionId, ids.Nodup → ∀ s : State,
      SameButHeld ((s.slot n).closedIf (ids.any (expiresOver s n)) (b.cfg n) s.minute)
        ((ids.foldl (fun s id => expireOne b id s) s).slot n) := by
    intro ids
    induction ids with
    | nil => exact fun _ s => .refl _
    | cons id ids ih =>
      intro once s
      rw [List.nodup_cons] at once
      have minute := (expireOne_tickFrame b id s).minute
      have rest := ih once.2 (expireOne b id s)
      have others : ids.any (expiresOver (expireOne b id s) n) = ids.any (expiresOver s n) := by
        have same : ∀ j ∈ ids, expiresOver (expireOne b id s) n j = expiresOver s n j := by
          intro j hj
          unfold expiresOver
          rw [expireOne_session, if_neg fun e : j = id => once.1 (e ▸ hj), minute]
        rw [Bool.eq_iff_iff, List.any_eq_true, List.any_eq_true]
        exact exists_congr fun j => and_congr_right fun hj => by rw [same j hj]
      rw [others, minute] at rest
      refine SameButHeld.trans ?_ rest
      refine SameButHeld.trans ?_ ((expireOne_slot b id n s).map (closedIf_held _ _ _))
      rw [List.any_cons]
      unfold SlotLive.closedIf
      cases expiresOver s n id
      · exact .refl _
      · cases ids.any (expiresOver s n)
        · exact .refl _
        · have twice := closed_closed (b.cfg n) s.minute (s.slot n)
          show SameButHeld ((s.slot n).closed (b.cfg n) s.minute)
            (((s.slot n).closed (b.cfg n) s.minute).closed (b.cfg n) s.minute)
          rw [twice]
          exact .refl _
  exact walk allSessions (List.nodup_finRange 8) s

end Sys2Proof.Machine
end

section
/-!
SUPPORT. The alerts of a minute tick without an expiry: how far the queue grows, and the standing alert of a slot that
repeats (R86, R123, R129).
-/

namespace Sys2Proof.Machine

/-! ## How far one alert grows the queue -/

theorem reoffer_length_le (b : Bank) (s : State) : (reoffer b s).alerts.length ≤ s.alerts.length + 1 := by
  unfold reoffer
  split
  · exact Nat.le_succ _
  · split
    · exact Nat.le_succ _
    · exact (length_joinTail _ _).le

theorem withdraw_length_le (b : Bank) (k : AlertKey) (s : State) :
    (withdraw b k s).alerts.length ≤ s.alerts.length + 1 := by
  unfold withdraw
  split
  · exact Nat.le_succ _
  · exact (reoffer_length_le b _).trans (Nat.succ_le_succ (List.length_filter_le _ _))

theorem merge_length_le (b : Bank) (a : Alert) (e : AlertEntry) (s : State) :
    (merge b a e s).alerts.length ≤ s.alerts.length + 1 := by
  unfold merge
  split
  · exact withdraw_length_le b _ s
  · split
    · dsimp only
      split
      · exact (List.length_map _).le.trans (Nat.le_succ _)
      · exact (length_joinTail _ _).le.trans (Nat.succ_le_succ (List.length_filter_le _ _))
    · exact Nat.le_succ _

theorem place_length_le (b : Bank) (a : Alert) (s : State) : (place b a s).alerts.length ≤ s.alerts.length + 1 := by
  unfold place
  split
  · exact (length_joinTail _ _).le
  · dsimp only
    split
    · exact Nat.le_succ _
    · exact Nat.le_succ _

theorem raiseAlert_length_le (b : Bank) (a : Alert) (s : State) :
    (raiseAlert b a s).alerts.length ≤ s.alerts.length + 1 := by
  unfold raiseAlert
  split
  · exact Nat.le_succ _
  · split
    · exact merge_length_le b a _ s
    · unfold raiseNew
      split
      · split
        · exact Nat.le_succ _
        · exact place_length_le b a s
      · exact place_length_le b a s

/-- An alert for a slot that is neither queued nor held back joins a queue with room. -/
theorem raiseAlert_enqueue {b : Bank} {a : Alert} {n : Slot} {s : State} (key : a.key = .slot n)
    (mask : maskHas s.mgmt.mask a.kind = false) (entry : s.entry (.slot n) = none) (held : (s.slot n).held = none)
    (room : s.alerts.length < 64) : raiseAlert b a s = s.enqueue b a := by
  unfold raiseAlert
  rw [if_neg (by rw [mask]; decide), key, entry]
  dsimp only
  unfold raiseNew
  rw [key]
  dsimp only
  rw [held]
  exact if_pos room

/-! ## How far one slot's part of the tick grows it -/

/-- The slot may raise an alert in its part of a minute tick. -/
def mayRaise (b : Bank) (s : State) (n : Slot) : Bool := repeatDue b n s || windowEnds b n s

theorem repeatDue_short {b : Bank} {n : Slot} {s : State} (due : repeatDue b n s = true) :
    (s.slot n).stock.short = true := by
  unfold repeatDue at due
  simp only [Bool.and_eq_true] at due
  obtain ⟨⟨⟨⟨⟨-, short⟩, -⟩, -⟩, -⟩, -⟩ := due
  exact short

/-- A slot that is not STOCKED raises no FORECAST: the arming decision keeps the queue (R101). -/
theorem arming_alerts {b : Bank} {n : Slot} {s : State} (h : (s.slot n).stock ≠ .stocked) :
    (arming b n s).alerts = s.alerts ∧ ((arming b n s).slot n).held = (s.slot n).held := by
  have quiet : mayForecast n s = false := by simp [mayForecast, h]
  unfold arming
  dsimp only
  rw [quiet]
  split
  · exact ⟨rfl, by rw [State.slot_modSlot_self]⟩
  · exact ⟨rfl, rfl⟩

theorem arming_length_le (b : Bank) (n : Slot) (s : State) : (arming b n s).alerts.length ≤ s.alerts.length + 1 := by
  unfold arming
  dsimp only
  split
  · exact Nat.le_succ _
  · split
    · exact raiseAlert_length_le b _ s
    · exact Nat.le_succ _

/-- The forecast window step of a slot that is not STOCKED keeps the queue. -/
theorem forecastStep_alerts {b : Bank} {n : Slot} {s : State} (h : (s.slot n).stock ≠ .stocked) :
    (forecastStep b n s).alerts = s.alerts ∧ ((forecastStep b n s).slot n).held = (s.slot n).held := by
  cases running : (s.slot n).elapsed with
  | none => rw [forecastStep_of_idle running]; exact ⟨rfl, rfl⟩
  | some e =>
    rw [forecastStep_of_running running]
    split
    · unfold windowClose recompute
      obtain ⟨alerts, held⟩ := arming_alerts (b := b) (n := n) (s := ((s.modSlot n fun v =>
        { v with elapsed := some (e + 1) }).modSlot n fun v =>
          { v with rate := some v.removedSum, removedSum := 0, elapsed := some 0 }).modSlot n fun v =>
          { v with projection := projectionOf v.count (b.cfg n).forecast.toNat v.rate })
        (by simp only [State.slot_modSlot_self]; exact h)
      refine ⟨alerts, held.trans ?_⟩
      simp only [State.slot_modSlot_self]
    · exact ⟨rfl, by rw [State.slot_modSlot_self]⟩

theorem forecastStep_length_le (b : Bank) (n : Slot) (s : State) :
    (forecastStep b n s).alerts.length ≤ s.alerts.length + if windowEnds b n s then 1 else 0 := by
  unfold windowEnds
  cases running : (s.slot n).elapsed with
  | none => rw [forecastStep_of_idle running]; exact Nat.le_add_right _ _
  | some e =>
    rw [forecastStep_of_running running, Option.any_some]
    simp only [decide_eq_true_eq]
    split
    · exact arming_length_le b n _
    · exact Nat.le_refl _

theorem repeatStep_length_le (b : Bank) (n : Slot) (s : State) :
    (repeatStep b n s).alerts.length ≤ s.alerts.length + if repeatDue b n s then 1 else 0 := by
  unfold repeatStep
  split
  · unfold doRepeat
    dsimp only
    split
    · exact raiseAlert_length_le b _ s
    · exact Nat.le_succ _
  · exact Nat.le_refl _

theorem repeatStep_stock (b : Bank) (n : Slot) (s : State) : ((repeatStep b n s).slot n).stock = (s.slot n).stock := by
  rw [(repeatStep_slot b n s).stock]
  split <;> rfl

theorem repeatStep_elapsed (b : Bank) (n : Slot) (s : State) :
    ((repeatStep b n s).slot n).elapsed = (s.slot n).elapsed := by
  rw [(repeatStep_slot b n s).elapsed]
  split <;> rfl

/-- A slot's part of the tick raises one alert at most: a slot that repeats is short, and FORECAST is for STOCKED. -/
theorem slotTick_length_le (b : Bank) (n : Slot) (s : State) :
    (slotTick b n s).alerts.length ≤ s.alerts.length + if mayRaise b s n then 1 else 0 := by
  have first := repeatStep_length_le b n s
  unfold slotTick mayRaise
  cases due : repeatDue b n s with
  | true =>
    have short := repeatDue_short due
    have unstocked : ((repeatStep b n s).slot n).stock ≠ .stocked := by
      rw [repeatStep_stock]
      intro stocked
      rw [stocked] at short
      cases short
    rw [due] at first
    rw [(forecastStep_alerts unstocked).1]
    exact first
  | false =>
    have second := forecastStep_length_le b n (repeatStep b n s)
    have ends : windowEnds b n (repeatStep b n s) = windowEnds b n s := by
      unfold windowEnds
      rw [repeatStep_elapsed]
    rw [ends] at second
    rw [due] at first
    exact second.trans (Nat.add_le_add_right first _)

theorem mayRaise_congr {b : Bank} {n : Slot} {s t : State} (same : SameButHeld (s.slot n) (t.slot n))
    (frame : VisitFrame s t) : mayRaise b t n = mayRaise b s n := by
  unfold mayRaise
  rw [repeatDue_congr same frame.minute (frame.covered n), windowEnds_congr same]

/-- The slots of a list grow the queue by one alert at most for each that may raise one. -/
theorem slotTicks_length_le (b : Bank) {ns : List Slot} (once : ns.Nodup) (s : State) :
    (ns.foldl (fun s n => slotTick b n s) s).alerts.length ≤ s.alerts.length + ns.countP (mayRaise b s) := by
  induction ns generalizing s with
  | nil => exact Nat.le_refl _
  | cons n ns ih =>
    rw [List.nodup_cons] at once
    have visit := (slotTick_onlySlot b n s).visit
    have others : ns.countP (mayRaise b (slotTick b n s)) = ns.countP (mayRaise b s) :=
      List.countP_congr fun m hm => by
        rw [mayRaise_congr (visit.others m fun e => once.1 (e ▸ hm)) visit.frame]
    have rest := ih once.2 (slotTick b n s)
    have turn := slotTick_length_le b n s
    rw [others] at rest
    rw [List.foldl_cons, List.countP_cons]
    omega

/-! ## The standing alert of a slot that repeats -/

/-- A slot's own part of the tick queues its standing alert. -/
theorem slotTick_queues {b : Bank} {n : Slot} {s : State} {k : AlertKind} (due : repeatDue b n s = true)
    (kind : standing (b.cfg n).mode (b.cfg n).emptyAlert (s.slot n).stock = some k)
    (mask : maskHas s.mgmt.mask k = false) (entry : s.entry (.slot n) = none) (held : (s.slot n).held = none)
    (room : s.alerts.length < 64) :
    (slotTick b n s).entry (.slot n) = some (stockEntry b n k s) ∧ ((slotTick b n s).slot n).held = none := by
  have raised : raiseStock b n k s = s.enqueue b (slotAlert b n k .noReason (s.slot n).count none s) :=
    raiseAlert_enqueue rfl mask entry held room
  have repeats : repeatStep b n s = (raiseStock b n k s).modSlot n fun v => { v with
      deadline := v.deadline.map fun d =>
        advanceDeadline (raiseStock b n k s).minute d (b.cfg n).interval.toNat } := by
    unfold repeatStep
    rw [if_pos due]
    unfold doRepeat
    rw [kind]
  have unstocked : ((repeatStep b n s).slot n).stock ≠ .stocked := by
    have short := repeatDue_short due
    rw [repeatStep_stock]
    intro stocked
    rw [stocked] at short
    cases short
  obtain ⟨alerts, free⟩ := forecastStep_alerts (b := b) unstocked
  have queue : (repeatStep b n s).alerts
      = joinTail ⟨slotAlert b n k .noReason (s.slot n).count none s,
          (slotAlert b n k .noReason (s.slot n).count none s).urgent b⟩ s.alerts := by
    rw [repeats, State.modSlot_alerts, raised]
    rfl
  have tier : (slotAlert b n k .noReason (s.slot n).count none s).urgent b
      = (k = .empty || (k = .low && (b.cfg n).urgentClass)) := by
    have standingKind : k = .low ∨ k = .empty := by
      unfold standing at kind
      dsimp only at kind
      repeat' split at kind
      all_goals cases kind
      all_goals simp
    obtain rfl | rfl := standingKind
    · rfl
    · rfl
  refine ⟨?_, free.trans ?_⟩
  · rw [entry_eq_entryIn]
    unfold slotTick
    rw [alerts, queue, tier]
    exact entryIn_joinTail_self (e := stockEntry b n k s) rfl entry
  · rw [repeats, State.slot_modSlot_self, raised]
    exact held

/-- In a pass over all slots with room for what they raise, a slot that repeats gets its standing alert queued. -/
theorem slotsPass_queues {b : Bank} {n : Slot} {s : State} {k : AlertKind} (due : repeatDue b n s = true)
    (kind : standing (b.cfg n).mode (b.cfg n).emptyAlert (s.slot n).stock = some k)
    (mask : maskHas s.mgmt.mask k = false) (entry : s.entry (.slot n) = none) (held : (s.slot n).held = none)
    (room : s.alerts.length + allSlots.countP (mayRaise b s) ≤ 64) :
    (slotsPass b s).entry (.slot n) = some (stockEntry b n k s) := by
  have acts := fun (u : State) (m : Slot) => slotTick_acts b m u
  have visits := fun (u : State) (m : Slot) => (slotTick_onlySlot b m u).visit
  obtain ⟨l, r, split, before, after⟩ := allSlots_split n
  have once := allSlots_nodup
  rw [split] at once room
  have mine : mayRaise b s n = true := by
    unfold mayRaise
    rw [due]
    rfl
  have grown := slotTicks_length_le b (List.nodup_append.mp once).1 s
  rw [List.countP_append, List.countP_cons_of_pos mine] at room
  unfold slotsPass
  rw [split, List.foldl_append, List.foldl_cons]
  have ahead := foldl_beside _ b acts before s
  have same := foldl_visits_not_mem _ visits before s
  have frame := foldl_visitFrame _ visits l s
  generalize l.foldl (fun s n => slotTick b n s) s = u at grown ahead same frame ⊢
  obtain ⟨none, free⟩ := ahead.of_not_held held
  rw [← repeatDue_congr (b := b) same frame.minute (frame.covered n)] at due
  rw [← same.stock] at kind
  rw [← frame.mask] at mask
  obtain ⟨queued, free⟩ := slotTick_queues due kind mask (none.trans entry) free (by omega)
  rw [((foldl_beside _ b acts after (slotTick b n u)).of_not_held free).1, queued]
  unfold stockEntry
  rw [same.count, frame.now]

end Sys2Proof.Machine
end

section
/-!
SUPPORT. The minute tick as a whole: the sessions' and the slot engine's parts in either order, and the counting alone
where the rest has rows of its own (R18, R19). Settles O5.
-/

namespace Sys2Proof.Machine

/-! ## The sixtieth second -/

/-- The state in which the minute tick is offered to the blocks. -/
def State.atMinute (s : State) : State := { s with time := ⟨s.time.seconds + 1, s.time.minutes + 1, 0⟩ }

@[simp] theorem State.atMinute_slot (s : State) (n : Slot) : s.atMinute.slot n = s.slot n := rfl
@[simp] theorem State.atMinute_session (s : State) (id : SessionId) : s.atMinute.session id = s.session id := rfl
@[simp] theorem State.atMinute_acting (s : State) : s.atMinute.acting = s.acting := rfl
@[simp] theorem State.atMinute_minute (s : State) : s.atMinute.minute = s.time.minutes + 1 := rfl

/-- The sixtieth second is the minute tick (R18). -/
theorem tick_eq {s : State} (phase : s.time.phase = 59) (o : TickOrder) : tick o s = minuteWork o s.atMinute := by
  have due : s.minuteDue = true := by
    unfold State.minuteDue
    rw [phase]
    rfl
  unfold tick minuteTick secondTick
  rw [due]
  rfl

/-! ## Expiries and repeats in either order -/

theorem slotsPass_sessions (b : Bank) (s : State) : (slotsPass b s).sessions = s.sessions :=
  (foldl_visitFrame _ (fun s' n => (slotTick_onlySlot b n s').visit) allSlots s).sessions

/-- A session that expires covers the slot. -/
def expiring (s : State) (n : Slot) : Bool := allSessions.any (expiresOver s n)

theorem expiring_iff (s : State) (n : Slot) : expiring s n = true ↔
    ∃ id r, s.session id = some r ∧ reached s.minute r.deadline = true ∧ r.covers n = true := by
  simp only [expiring, expiresOver, List.any_eq_true, allSessions, List.mem_finRange, true_and, Option.any_eq_true,
    Bool.and_eq_true]

/-- A slot that no expiring session covers is as covered after the sessions' part as before. -/
theorem sessionsPass_covered {b : Bank} {n : Slot} {s : State} (quiet : expiring s n = false) :
    (sessionsPass b s).covered n = s.covered n := by
  rw [Bool.eq_iff_iff, covered_iff, covered_iff]
  refine exists_congr fun id => exists_congr fun r => and_congr_left fun covers => ?_
  rw [sessionsPass_session, Option.filter_eq_some_iff]
  refine and_iff_left_of_imp fun open_ => ?_
  rw [Bool.not_eq_true', ← Bool.not_eq_true]
  intro due
  rw [(expiring_iff s n).mpr ⟨id, r, open_, due, covers⟩] at quiet
  cases quiet

theorem covered_of_expiring {n : Slot} {s : State} (h : expiring s n = true) : s.covered n = true := by
  obtain ⟨id, r, open_, -, covers⟩ := (expiring_iff s n).mp h
  exact (covered_iff s n).mpr ⟨id, r, open_, covers⟩

/-- A covered slot does not repeat (R87). -/
theorem repeatDue_of_covered {b : Bank} {n : Slot} {s : State} (h : s.covered n = true) : repeatDue b n s = false := by
  simp [repeatDue, h]

/-- A slot that was closed in this tick does not repeat in it: its deadline lies an interval ahead. -/
theorem repeatDue_of_closed {b : Bank} {n : Slot} {s : State} {v : SlotLive} (interval : (b.cfg n).interval ≠ 0)
    (closed : SameButHeld (v.closed (b.cfg n) s.minute) (s.slot n)) : repeatDue b n s = false := by
  have stock : (s.slot n).stock = v.stock := by
    rw [closed.stock, closed_frame]
  by_cases short : ((b.cfg n).enabled && v.stock.short) = true
  · have deadline : (s.slot n).deadline = some (s.minute + BitVec.ofNat 32 (b.cfg n).interval.toNat) := by
      rw [closed.deadline]
      unfold SlotLive.closed
      rw [if_pos short]
    have ahead : reached s.minute (s.minute + BitVec.ofNat 32 (b.cfg n).interval.toNat) = false := by
      have positive := (bitVec_ne_zero_iff _).mp interval
      have bounded := (b.cfg n).interval.isLt
      exact reached_ahead _ positive (by omega)
    unfold repeatDue
    dsimp only
    rw [deadline, Option.any_some, ahead, Bool.and_false]
  · unfold repeatDue
    rw [Bool.and_eq_true, not_and] at short
    dsimp only
    rw [stock]
    cases enabled : (b.cfg n).enabled
    · rfl
    · have long := short enabled
      rw [Bool.not_eq_true] at long
      simp [long]

/-- The counting alone advances the running windows and nothing else (R98). -/
theorem countWindows_slot (s : State) (n : Slot) :
    (countWindows s).slot n = { s.slot n with elapsed := (s.slot n).elapsed.map (· + 1) } := by
  simp [countWindows, State.slot]

theorem countWindows_ticked (s : State) (n : Slot) (cfg : SlotCfg) (minute : Word) :
    Ticked false cfg minute false (s.slot n) ((countWindows s).slot n) := by
  rw [countWindows_slot]
  refine ⟨rfl, rfl, fun idle => ?_, fun e running => ?_⟩
  · dsimp only
    rw [idle]
    rfl
  · dsimp only
    rw [running]
    exact ⟨rfl, rfl, rfl⟩

/-- The record of a slot after a minute tick: the slot engine's part on the record, closed where a session over the
slot expires. The slot repeats as the repeat test says, and a closed one does not. -/
theorem minuteWork_slot (o : TickOrder) (s : State) (n : Slot) :
    ∃ due, Ticked (decide (o ≠ .separately)) (s.acting.cfg n) s.minute due
        ((s.slot n).closedIf (decide (o ≠ .separately) && expiring s n) (s.acting.cfg n) s.minute)
        ((minuteWork o s).slot n)
      ∧ ((decide (o ≠ .separately) && expiring s n) = false →
        due = (decide (o ≠ .separately) && repeatDue s.acting n s))
      ∧ ((decide (o ≠ .separately) && expiring s n) = true → (s.acting.cfg n).interval ≠ 0 → due = false) := by
  cases o with
  | separately => exact ⟨false, countWindows_ticked s n _ _, fun _ => rfl, nofun⟩
  | sessionsFirst =>
    have sessions : SameButHeld ((s.slot n).closedIf (expiring s n) (s.acting.cfg n) s.minute) _ :=
      sessionsPass_slot s.acting n s
    have minute := (sessionsPass_tickFrame s.acting s).minute
    have slots := slotsPass_slot s.acting n (sessionsPass s.acting s)
    rw [minute] at slots
    refine ⟨_, slots.same_left sessions, fun (quiet : expiring s n = false) => ?_,
      fun (expires : expiring s n = true) interval => ?_⟩
    · rw [quiet] at sessions
      exact repeatDue_congr sessions minute (sessionsPass_covered quiet)
    · rw [expires] at sessions
      refine repeatDue_of_closed interval (v := s.slot n) ?_
      rw [minute]
      exact sessions
  | slotsFirst =>
    have slots := slotsPass_slot s.acting n s
    have frame := slotsPass_tickFrame s.acting s
    have sessions := sessionsPass_slot s.acting n (slotsPass s.acting s)
    have expires : allSessions.any (expiresOver (slotsPass s.acting s) n) = expiring s n := by
      unfold expiring expiresOver State.session
      rw [slotsPass_sessions, frame.minute]
    rw [expires, frame.minute] at sessions
    cases covers : expiring s n with
    | false =>
      rw [covers] at sessions
      exact ⟨_, slots.same_right sessions, fun _ => rfl, nofun⟩
    | true =>
      rw [covers] at sessions
      rw [repeatDue_of_covered (covered_of_expiring covers)] at slots
      exact ⟨false, slots.closed.same_right sessions, nofun, fun _ _ => rfl⟩

/-- The sessions after a minute tick: those whose deadline it reaches are free, if expiries are part of it (R116). -/
theorem minuteWork_session (o : TickOrder) (s : State) (id : SessionId) : (minuteWork o s).session id =
    (s.session id).filter fun r => !(decide (o ≠ .separately) && reached s.minute r.deadline) := by
  cases o with
  | separately =>
    show s.session id = _
    cases s.session id <;> rfl
  | sessionsFirst =>
    exact (congrArg (fun v => v[id]) (slotsPass_sessions s.acting _)).trans (sessionsPass_session s.acting id s)
  | slotsFirst =>
    refine (sessionsPass_session s.acting id _).trans ?_
    unfold State.session
    rw [slotsPass_sessions, (slotsPass_tickFrame s.acting s).minute]
    rfl

theorem minuteWork_tickFrame (o : TickOrder) (s : State) : TickFrame s (minuteWork o s) := by
  cases o with
  | separately => exact rfl
  | sessionsFirst => exact (sessionsPass_tickFrame _ s).trans (slotsPass_tickFrame _ _)
  | slotsFirst => exact (slotsPass_tickFrame _ s).trans (sessionsPass_tickFrame _ _)

/-- With no session at its deadline, the sessions' part of the tick does nothing. -/
theorem sessionsPass_idle {b : Bank} {s : State}
    (quiet : ∀ id r, s.session id = some r → reached s.minute r.deadline = false) : sessionsPass b s = s := by
  have turn : ∀ id, expireOne b id s = s := by
    intro id
    unfold expireOne
    split
    · next r open_ => rw [quiet id r open_]; rfl
    · rfl
  have walk : ∀ ids : List SessionId, ids.foldl (fun s id => expireOne b id s) s = s := by
    intro ids
    induction ids with
    | nil => rfl
    | cons id ids ih => rw [List.foldl_cons, turn, ih]
  exact walk allSessions

theorem minuteWork_idle_sessions {o : TickOrder} (whole : o ≠ .separately) {s : State}
    (quiet : ∀ id r, s.session id = some r → reached s.minute r.deadline = false) :
    minuteWork o s = slotsPass s.acting s := by
  cases o with
  | separately => exact absurd rfl whole
  | sessionsFirst => exact congrArg (slotsPass s.acting) (sessionsPass_idle quiet)
  | slotsFirst =>
    refine sessionsPass_idle fun id r open_ => ?_
    rw [(slotsPass_tickFrame s.acting s).minute]
    refine quiet id r (Eq.trans ?_ open_)
    exact (congrArg (fun v => v[id]) (slotsPass_sessions s.acting s)).symm

/-! ## The least advance of a repeat deadline -/

/-- A reached deadline advances by the least number of intervals that takes it past the present minute (R86). -/
theorem advanceDeadline_least {now d : Word} {interval : Nat} (positive : 0 < interval) (bounded : interval < 2 ^ 16)
    (due : reached now d = true) : ∃ k,
    advanceDeadline now d interval = d + BitVec.ofNat 32 (k * interval)
    ∧ reached now (d + BitVec.ofNat 32 (k * interval)) = false
    ∧ ∀ j < k, reached now (d + BitVec.ofNat 32 (j * interval)) = true := by
  unfold reached at due
  rw [decide_eq_true_eq] at due
  have past : now = d + BitVec.ofNat 32 (now - d).toNat := by
    rw [BitVec.ofNat_toNat, BitVec.setWidth_eq, add_sub_cancel]
  unfold advanceDeadline
  generalize (now - d).toNat = e at due past ⊢
  have steps := Nat.div_add_mod e interval
  have rest := Nat.mod_lt e positive
  have beyond : (e / interval + 1) * interval = interval * (e / interval) + interval := by ring
  refine ⟨e / interval + 1, by rw [Nat.mul_comm], ?_, fun j hj => ?_⟩
  · have ahead : d + BitVec.ofNat 32 ((e / interval + 1) * interval)
        = now + BitVec.ofNat 32 ((e / interval + 1) * interval - e) := by
      rw [past, add_assoc, ← BitVec.ofNat_add, Nat.add_sub_cancel' (by omega)]
    rw [ahead]
    exact reached_ahead now (by omega) (by omega)
  · have within : j * interval ≤ e := calc
      j * interval ≤ e / interval * interval := Nat.mul_le_mul_right _ (Nat.lt_succ_iff.mp hj)
      _ ≤ e := Nat.div_mul_le_self e interval
    have behind : d + BitVec.ofNat 32 (j * interval) = now - BitVec.ofNat 32 (e - j * interval) := by
      rw [past, eq_sub_iff_add_eq, add_assoc, ← BitVec.ofNat_add, Nat.add_sub_cancel' within]
    rw [behind]
    exact reached_past now (by omega)

/-! ## O5 -/

/-- A close writes the acknowledged flag, the deadline and the deficit-at-open flag. -/
theorem closedIf_frame (x : Bool) (cfg : SlotCfg) (minute : Word) (v : SlotLive) : v.closedIf x cfg minute = { v with
    acked := (v.closedIf x cfg minute).acked, deadline := (v.closedIf x cfg minute).deadline
    deficit := (v.closedIf x cfg minute).deficit } := by
  unfold SlotLive.closedIf
  split
  · exact closed_frame cfg minute v
  · rfl

/-- The kind of the standing alert of a slot that repeats (Table 5-5). -/
theorem standing_of_due {b : Bank} {n : Slot} {s : State} (due : repeatDue b n s = true) :
    standing (b.cfg n).mode (b.cfg n).emptyAlert (s.slot n).stock
      = some (if (s.slot n).stock = .empty ∧ (b.cfg n).emptyAlert = true then .empty else .low) := by
  have short := repeatDue_short due
  have mode : (b.cfg n).mode = .repeating := by
    unfold repeatDue at due
    simp only [Bool.and_eq_true, decide_eq_true_eq] at due
    obtain ⟨⟨⟨⟨⟨⟨-, mode⟩, -⟩, -⟩, -⟩, -⟩, -⟩ := due
    exact mode
  rw [mode]
  cases stock : (s.slot n).stock with
  | unknown => rw [stock] at short; cases short
  | stocked => rw [stock] at short; cases short
  | low => simp [standing]
  | empty => cases (b.cfg n).emptyAlert <;> simp [standing]

theorem stockEntry_congr (b : Bank) (k : AlertKind) {n : Slot} {s t : State}
    (count : (t.slot n).count = (s.slot n).count) (now : t.now = s.now) : stockEntry b n k t = stockEntry b n k s := by
  unfold stockEntry
  rw [count, now]

/-- Settles O5. -/
theorem minuteTickCountsAndTakesWhatFallsDue : Obligations.MinuteTickCountsAndTakesWhatFallsDue := by
  intro o s phase
  have sixtieth : s.minuteDue = true := decide_eq_true (by omega)
  have ticked := tick_eq phase o
  have frame := minuteWork_tickFrame o s.atMinute
  have atMinute : TickFrame s.atMinute (minuteWork o s.atMinute) := frame
  have record := minuteWork_slot o s.atMinute
  have sessions := minuteWork_session o s.atMinute
  simp only [State.atMinute_slot, State.atMinute_session, State.atMinute_acting, State.atMinute_minute]
    at record sessions
  have taken_iff : ∀ x : Bool, (decide (o ≠ .separately) && x) = true ↔ o ≠ .separately ∧ x = true := fun x => by
    rw [Bool.and_eq_true, decide_eq_true_eq]
  refine ⟨minuteWork o s.atMinute, ?_, congrArg Host.Outcome.next ticked, frame.time, ?_, fun n => ?_, fun id r open_ => ?_,
    fun id free => ?_, fun n idle => ?_, fun n e running => ?_, ?_⟩
  · exact congrArg Host.Outcome.next ((if_pos sixtieth).trans ticked)
  · unfold TickFrame at atMinute
    rw [frame.time]
    exact atMinute
  · obtain ⟨x, tick, -⟩ := record n
    have frame := tick.frame
    rw [closedIf_frame] at frame
    rw [frame]
  · rw [sessions id, open_, Option.filter_some]
    by_cases due : o ≠ .separately ∧ reached (s.time.minutes + 1) r.deadline = true
    · rw [if_pos due, if_neg (by rw [Bool.not_eq_true', ← Bool.not_eq_true, not_not, taken_iff]; exact due)]
    · rw [if_neg due, if_pos (by rw [Bool.not_eq_true', ← Bool.not_eq_true, taken_iff]; exact due)]
  · rw [sessions id, free]
    rfl
  · obtain ⟨x, tick, -⟩ := record n
    refine tick.idle (Eq.trans ?_ idle)
    rw [closedIf_frame]
  · obtain ⟨x, tick, -⟩ := record n
    have step := tick.running e (Eq.trans (by rw [closedIf_frame]) running)
    rw [closedIf_frame] at step
    simpa using step
  intro minute cfg expires expires_over due closes
  have over_iff : ∀ n, expires_over n ↔ (decide (o ≠ .separately) && expiring s.atMinute n) = true := by
    intro n
    rw [taken_iff, expiring_iff]
    simp only [expires_over, expires, taken_iff, State.atMinute_session, State.atMinute_minute]
    exact ⟨fun ⟨id, r, open_, ⟨whole, due⟩, covers⟩ => ⟨whole, id, r, open_, due, covers⟩,
      fun ⟨whole, id, r, open_, due, covers⟩ => ⟨id, r, open_, ⟨whole, due⟩, covers⟩⟩
  have due_eq : ∀ n, due n = (decide (o ≠ .separately) && repeatDue s.acting n s.atMinute) := by
    intro n
    have covered : s.atMinute.covered n = s.covered n := rfl
    unfold repeatDue
    simp only [due, cfg, minute, State.atMinute_slot, State.atMinute_minute, covered, Bool.and_assoc]
  have quiet : ∀ n, ¬ expires_over n → (decide (o ≠ .separately) && expiring s.atMinute n) = false := fun n h => by
    rw [← Bool.not_eq_true]
    exact fun e => h ((over_iff n).mpr e)
  refine ⟨fun n still => ?_, fun n still undue => ?_, fun n d still isDue deadline interval => ?_,
    fun n covers interval => ?_, fun sep => by rw [sep]; rfl, fun n k idle isDue kind mask entry held room => ?_⟩
  · obtain ⟨x, tick, -⟩ := record n
    have same := tick.frame
    rw [quiet n still] at same
    exact ⟨by rw [same]; rfl, by rw [same]; rfl⟩
  · obtain ⟨x, tick, repeats, -⟩ := record n
    have set := tick.deadline
    rw [repeats (quiet n still), ← due_eq, undue, quiet n still] at set
    exact set
  · obtain ⟨x, tick, repeats, -⟩ := record n
    have set := tick.deadline
    rw [repeats (quiet n still), ← due_eq, isDue, quiet n still] at set
    have reached_ : reached minute d = true := by
      simp only [due, Bool.and_eq_true] at isDue
      obtain ⟨-, past⟩ := isDue
      rw [deadline] at past
      exact past
    obtain ⟨k, advanced, past, least⟩ := advanceDeadline_least ((bitVec_ne_zero_iff _).mp interval)
      ((cfg n).interval.isLt.trans (by decide)) reached_
    refine ⟨k, ?_, past, least⟩
    rw [← advanced]
    refine set.trans ?_
    show (s.slot n).deadline.map _ = _
    rw [deadline]
    rfl
  · obtain ⟨x, tick, -, closes⟩ := record n
    have expired := (over_iff n).mp covers
    have same := tick.frame
    have set := tick.deadline
    rw [closes expired interval, expired] at set
    rw [expired] at same
    exact ⟨by rw [same]; rfl, set, by rw [same]; rfl⟩
  · have whole : o ≠ .separately := fun e => by
      rw [due_eq, e] at isDue
      cases isDue
    have decided : decide (o ≠ .separately) = true := decide_eq_true whole
    have isDue : repeatDue s.acting n s.atMinute = true := by
      rw [due_eq, decided] at isDue
      exact isDue
    have noExpiry : ∀ id r, s.atMinute.session id = some r → reached s.atMinute.minute r.deadline = false := by
      intro id r open_
      have later := idle id r open_
      simp only [expires, decided, Bool.true_and] at later
      exact later
    have mayRaise_eq : ∀ m, mayRaise s.acting s.atMinute m = (due m || closes m) := by
      intro m
      rw [due_eq, decided, Bool.true_and]
      simp only [closes, decided, Bool.true_and]
      rfl
    have queued := slotsPass_queues isDue ((standing_of_due isDue).trans (congrArg some kind.symm)) mask entry held
      (by rw [funext mayRaise_eq]; exact room)
    have tick := slotsPass_slot s.acting n s.atMinute
    have count : ((slotsPass s.acting s.atMinute).slot n).count = (s.atMinute.slot n).count := by rw [tick.frame]
    rw [minuteWork_idle_sessions whole noExpiry, State.atMinute_acting, queued,
      stockEntry_congr s.acting k count (slotsPass_tickFrame s.acting s.atMinute).now]

end Sys2Proof.Machine
end

section
/-!
SUPPORT. The invariants of one slot live record, and what the blocks can make of a record: every change is a run of
`RecordAct`s, each of which keeps the form of the record and its agreement with the slot's settings. An invariant of the
records has so to be checked against twelve acts and not against the operations of five blocks.
-/

namespace Sys2Proof.Machine

/-! ## The invariants of one record -/

/-- The form of a slot live record between events: `SlotsOk` for one slot. -/
def RecordOk (v : SlotLive) : Prop := CountOk v ∧ MotionOk v ∧ RangesOk v ∧ UnknownOk v

theorem slotsOk_iff (s : State) : SlotsOk s ↔ ∀ n, RecordOk (s.slot n) := .rfl

/-- The stock state agrees with the count (R75). -/
def StockAgrees (cfg : SlotCfg) (stock : StockState) (c : Nat) : Prop :=
  (stock = .empty → c = 0) ∧ (stock = .low → 1 ≤ c ∧ c ≤ cfg.clear.toNat)
  ∧ (stock = .stocked → cfg.reorder.toNat < c)

/-- A slot that is UNKNOWN, unfaulted, out of motion and without samples (R33, R53, R94). -/
def SlotLive.Dormant (v : SlotLive) : Prop :=
  v.stock = .unknown ∧ v.fault = none ∧ v.motion = none ∧ v.window = none ∧ v.fresh = 0

/-- A record agrees with the settings of its slot: `StockOk` for one slot. -/
def RecordAgrees (cfg : SlotCfg) (v : SlotLive) : Prop :=
  (∀ c, v.count = some c → StockAgrees cfg v.stock c) ∧ (cfg.enabled = false → v.Dormant)

theorem stockOk_iff (s : State) : StockOk s ↔ ∀ n, RecordAgrees (s.acting.cfg n) (s.slot n) := .rfl

/-! ## The stock evaluation of a record -/

theorem classify_ne_unknown (p q c : Nat) (cur : StockState) : classify p q c cur ≠ .unknown := by
  unfold classify
  repeat' split
  all_goals decide

/-- The class of a count agrees with it, the clear point not below the reorder point (R75, R76). -/
theorem classify_agrees {cfg : SlotCfg} (ordered : cfg.reorder.toNat ≤ cfg.clear.toNat) (c : Nat) (cur : StockState) :
    StockAgrees cfg (classify cfg.reorder.toNat cfg.clear.toNat c cur) c := by
  unfold classify StockAgrees
  repeat' split
  all_goals simp only [reduceCtorEq, forall_const, false_implies, true_and, and_true]
  all_goals omega

theorem evaluated_stock {cfg : SlotCfg} {minute : Word} {v : SlotLive} {c : Nat} (count : v.count = some c) :
    (v.evaluated cfg minute).stock = classify cfg.reorder.toNat cfg.clear.toNat c v.stock := by
  rw [evaluated_of_count count]
  split
  · next same => exact same.symm
  · rfl

/-- The evaluation writes the stock state, the acknowledged flag, the deadline and the armed flag. -/
theorem evaluated_frame (cfg : SlotCfg) (minute : Word) (v : SlotLive) : v.evaluated cfg minute = { v with
    stock := (v.evaluated cfg minute).stock, acked := (v.evaluated cfg minute).acked
    deadline := (v.evaluated cfg minute).deadline, armed := (v.evaluated cfg minute).armed } := by
  unfold SlotLive.evaluated
  split
  · rfl
  · dsimp only
    split <;> rfl

/-- A transition to a known stock state leaves a deadline exactly in a short slot (R74, R82). -/
theorem transit_deadline_isSome {v : SlotLive} (before : v.deadline.isSome ↔ v.stock.short) {new : StockState}
    (minute : Word) : (v.transit new minute).deadline.isSome ↔ new.short := by
  cases new with
  | unknown => exact .rfl
  | stocked => exact .rfl
  | empty => exact .rfl
  | low =>
    rw [SlotLive.transit_deadline]
    unfold deadlineAfter
    dsimp only
    split
    · next empty => rw [before, empty]; rfl
    · exact .rfl

/-- An evaluated count leaves a known stock state with its deadline (R56, R74). -/
theorem evaluated_countOk {cfg : SlotCfg} {minute : Word} {v : SlotLive} {c : Nat} (count : v.count = some c)
    (deadline : v.deadline.isSome ↔ v.stock.short) : CountOk (v.evaluated cfg minute) := by
  have known : (v.evaluated cfg minute).stock ≠ .unknown := by
    rw [evaluated_stock count]
    exact classify_ne_unknown _ _ _ _
  refine ⟨?_, ?_⟩
  · rw [evaluated_frame, count]
    exact ⟨fun _ => known, fun _ => rfl⟩
  · rw [evaluated_of_count count]
    split
    · exact deadline
    · exact transit_deadline_isSome deadline _

theorem projectionOf_le (count : Option Nat) (window : Nat) (rate : Option Nat) :
    projectionOf count window rate ≤ Config.noProjection := by
  unfold projectionOf
  split
  · split
    · exact le_rfl
    · exact Nat.min_le_left _ _
  · exact le_rfl

/-! ## A count of a record -/

/-- What an accepted count `c` makes of a record, held-back flag aside (R61 to R67): totals, removed sum and forecast
window by Table 4-3, then the stock evaluation and the projection. -/
def Counted (cfg : SlotCfg) (c : Nat) (v w : SlotLive) : Prop :=
  ∃ (u : SlotLive) (minute : Word) (p : Nat) (x : Bool),
    u = { v with
      count := some c, streak := 0, inspection := u.inspection, removed := u.removed, putBack := u.putBack
      replenished := u.replenished, removedSum := u.removedSum, elapsed := u.elapsed, held := u.held }
    ∧ (v.removedSum ≤ Config.removedMax → u.removedSum ≤ Config.removedMax)
    ∧ p ≤ Config.noProjection
    ∧ w = { u.evaluated cfg minute with projection := p, armed := x }

/-- A count leaves faults, samples, motion and the settled weight alone. -/
theorem Counted.frame {cfg : SlotCfg} {c : Nat} {v w : SlotLive} (h : Counted cfg c v w) :
    w.fault = v.fault ∧ w.fresh = v.fresh ∧ w.window = v.window ∧ w.motion = v.motion
    ∧ w.motionReported = v.motionReported ∧ w.lastSettled = v.lastSettled ∧ w.count = some c := by
  obtain ⟨u, minute, p, x, frame, -, -, rfl⟩ := h
  rw [evaluated_frame, frame]
  exact ⟨rfl, rfl, rfl, rfl, rfl, rfl, rfl⟩

theorem Counted.same_right {cfg : SlotCfg} {c : Nat} {v w w' : SlotLive} (h : Counted cfg c v w)
    (same : SameButHeld w w') : Counted cfg c v w' := by
  obtain ⟨k, rfl⟩ := same.exists_held
  obtain ⟨u, minute, p, x, frame, sum, range, rfl⟩ := h
  refine ⟨{ u with held := k }, minute, p, x, ?_, sum, range, ?_⟩
  · rw [frame]
  · rw [evaluated_held cfg minute u k]

/-! ## The acts -/

/-- One change of the record of a slot with the settings `cfg`. -/
inductive RecordAct (cfg : SlotCfg) (v : SlotLive) : SlotLive → Prop
  /-- Fields that no invariant reads are written. -/
  | aside (w : SlotLive) (same : w = { v with
      lastSettled := w.lastSettled, streak := w.streak, inspection := w.inspection, removed := w.removed
      putBack := w.putBack, replenished := w.replenished, acked := w.acked, deficit := w.deficit, held := w.held }) :
      RecordAct cfg v w
  /-- The deadline moves, or is set anew (R86, R118). -/
  | deadline (d : Option Word) (present : d.isSome = v.deadline.isSome ∨ d.isSome = v.stock.short) :
      RecordAct cfg v { v with deadline := d }
  /-- A fault starts (R35). -/
  | onset (r : FaultReason) (enabled : cfg.enabled = true) : RecordAct cfg v { v with
      fault := some r, fresh := 0, window := none, motion := none, motionReported := false }
  /-- A fault clears (R37). -/
  | clear : RecordAct cfg v { v with fault := none, fresh := 0 }
  /-- Samples are given up (R51). -/
  | emptied : RecordAct cfg v { v with fresh := 0, window := none }
  /-- Positions or a sample are taken (R30, R41). -/
  | sampled (fresh : BitVec 4) (window : Option Window) (enabled : cfg.enabled = true) (unfaulted : v.fault = none) :
      RecordAct cfg v { v with fresh := fresh, window := window }
  /-- An unsettled close (R46, R48). -/
  | unsettled (start : Word) (reported : Bool) (inspection : Option InspectReason) (enabled : cfg.enabled = true)
      (unfaulted : v.fault = none) : RecordAct cfg v { v with
        window := none, motion := some start, motionReported := reported, inspection := inspection }
  /-- Motion ends with a settled close (R49). -/
  | settled : RecordAct cfg v { v with window := none, motion := none, motionReported := false }
  /-- An accepted count (R61 to R67). -/
  | counted (c : Nat) (w : SlotLive) (range : c ≤ Config.countMax) (enabled : cfg.enabled = true)
      (h : Counted cfg c v w) : RecordAct cfg v w
  /-- A running forecast window counts a minute (R98). -/
  | minute : RecordAct cfg v { v with elapsed := v.elapsed.map (· + 1) }
  /-- A forecast window closes (R99, R100, R101). -/
  | forecast (p : Nat) (x : Bool) (range : p ≤ Config.noProjection) (running : v.elapsed ≠ none) :
      RecordAct cfg v { v with
        rate := some v.removedSum, removedSum := 0, elapsed := some 0, projection := p, armed := x }
  /-- The record is reset to UNKNOWN (R153). -/
  | unknown : RecordAct cfg v v.toUnknown

/-- A run of changes of the record of a slot with the settings `cfg`. -/
abbrev RecordActs (cfg : SlotCfg) : SlotLive → SlotLive → Prop := Relation.ReflTransGen (RecordAct cfg)

theorem SameButHeld.acts {cfg : SlotCfg} {v w : SlotLive} (h : SameButHeld v w) : RecordActs cfg v w := by
  obtain ⟨k, rfl⟩ := h.exists_held
  exact .single (.aside _ rfl)

theorem CountOk.known {v : SlotLive} (h : CountOk v) {c : Nat} (count : v.count = some c) : v.stock ≠ .unknown :=
  h.1.mp (by rw [count]; rfl)

/-- A slot whose forecast window runs is not UNKNOWN (R106). -/
theorem UnknownOk.of_running {v : SlotLive} (h : UnknownOk v) (running : v.elapsed ≠ none) : v.stock ≠ .unknown :=
  fun unknown => running (by rw [← h unknown, SlotLive.resetForecast_elapsed])

/-- A record that is not UNKNOWN owes nothing to R106. -/
theorem UnknownOk.of_known {v : SlotLive} (known : v.stock ≠ .unknown) : UnknownOk v := fun unknown => absurd unknown known

theorem toUnknown_recordOk {v : SlotLive} (h : MotionOk v) : RecordOk v.toUnknown :=
  ⟨⟨⟨nofun, fun known => absurd rfl known⟩, .rfl⟩, ⟨fun faulted => ⟨rfl, (h.1 faulted).2.1, rfl⟩, nofun⟩,
    ⟨nofun, Nat.zero_le _, nofun, le_rfl⟩, fun _ => rfl⟩

/-- A count keeps the form of a record. -/
theorem Counted.recordOk {cfg : SlotCfg} {c : Nat} {v w : SlotLive} (h : Counted cfg c v w)
    (range : c ≤ Config.countMax) (ok : RecordOk v) : RecordOk w := by
  obtain ⟨u, minute, p, x, frame, sum, projection, rfl⟩ := h
  obtain ⟨⟨-, deadline⟩, motion, ⟨-, removed, rate, -⟩, -⟩ := ok
  have count : u.count = some c := by rw [frame]
  have deadline' : u.deadline.isSome ↔ u.stock.short := by rw [frame]; exact deadline
  have counted := evaluated_countOk (cfg := cfg) (minute := minute) count deadline'
  have kept := evaluated_frame cfg minute u
  have count' : (u.evaluated cfg minute).count = some c := by rw [kept]; exact count
  refine ⟨counted, ?_, ⟨?_, ?_, ?_, projection⟩, .of_known (counted.known count')⟩
  · rw [kept, frame]
    exact motion
  · intro k hk
    rw [show (u.evaluated cfg minute).count = some k from hk] at count'
    cases count'
    exact range
  · rw [kept]
    exact sum removed
  · rw [kept, frame]
    exact rate

/-- A count leaves the stock state in agreement with it. -/
theorem Counted.agrees {cfg : SlotCfg} {c : Nat} {v w : SlotLive} (h : Counted cfg c v w)
    (ordered : cfg.reorder.toNat ≤ cfg.clear.toNat) (enabled : cfg.enabled = true) : RecordAgrees cfg w := by
  refine ⟨fun k hk => ?_, fun off => by rw [enabled] at off; cases off⟩
  obtain ⟨u, minute, p, x, frame, -, -, rfl⟩ := h
  have count : u.count = some c := by rw [frame]
  have hk : (u.evaluated cfg minute).count = some k := hk
  rw [evaluated_frame, count] at hk
  cases hk
  show StockAgrees cfg (u.evaluated cfg minute).stock c
  rw [evaluated_stock count]
  exact classify_agrees ordered c u.stock

/-- Every act keeps the form of a record. -/
theorem RecordAct.recordOk {cfg : SlotCfg} {v w : SlotLive} (act : RecordAct cfg v w) (ok : RecordOk v) : RecordOk w := by
  obtain ⟨count, motion, ranges, unknown⟩ := ok
  cases act with
  | aside w same =>
    rw [same]
    exact ⟨count, motion, ranges, fun h => by rw [← unknown h]; rfl⟩
  | deadline d present =>
    refine ⟨⟨count.1, ?_⟩, motion, ranges, fun h => by rw [← unknown h]; rfl⟩
    obtain kept | set := present
    · exact (Bool.eq_iff_iff.mp kept).trans count.2
    · exact Bool.eq_iff_iff.mp set
  | onset r enabled => exact ⟨count, ⟨fun _ => ⟨rfl, rfl, rfl⟩, nofun⟩, ranges, fun h => by rw [← unknown h]; rfl⟩
  | clear => exact ⟨count, ⟨nofun, motion.2⟩, ranges, fun h => by rw [← unknown h]; rfl⟩
  | emptied =>
    exact ⟨count, ⟨fun faulted => ⟨rfl, rfl, (motion.1 faulted).2.2⟩, motion.2⟩, ranges,
      fun h => by rw [← unknown h]; rfl⟩
  | sampled fresh window enabled unfaulted =>
    refine ⟨count, ⟨fun faulted => ?_, motion.2⟩, ranges, fun h => by rw [← unknown h]; rfl⟩
    rw [unfaulted] at faulted
    cases faulted
  | unsettled start reported inspection enabled unfaulted =>
    refine ⟨count, ⟨fun faulted => ?_, fun _ => rfl⟩, ranges, fun h => by rw [← unknown h]; rfl⟩
    rw [unfaulted] at faulted
    cases faulted
  | settled =>
    exact ⟨count, ⟨fun faulted => ⟨rfl, (motion.1 faulted).2.1, rfl⟩, nofun⟩, ranges, fun h => by rw [← unknown h]; rfl⟩
  | counted c w range enabled h => exact h.recordOk range ⟨count, motion, ranges, unknown⟩
  | minute =>
    refine ⟨count, motion, ranges, fun h => ?_⟩
    have idle : v.elapsed = none := by rw [← unknown h, SlotLive.resetForecast_elapsed]
    rw [idle]
    have same := unknown h
    rw [← same]
    rfl
  | forecast p x range running =>
    obtain ⟨countRange, removed, -, -⟩ := ranges
    refine ⟨count, motion, ⟨countRange, Nat.zero_le _, fun r hr => ?_, range⟩, .of_known (unknown.of_running running)⟩
    cases hr
    exact removed
  | unknown => exact toUnknown_recordOk motion

/-- Every act keeps the agreement of a record with its slot's settings. -/
theorem RecordAct.agrees {cfg : SlotCfg} (ordered : cfg.reorder.toNat ≤ cfg.clear.toNat) {v w : SlotLive}
    (act : RecordAct cfg v w) (agrees : RecordAgrees cfg v) : RecordAgrees cfg w := by
  have on : cfg.enabled = true → ∀ {w : SlotLive}, cfg.enabled = false → w.Dormant := fun on _ off => by
    rw [on] at off
    cases off
  obtain ⟨stock, dormant⟩ := agrees
  cases act with
  | aside w same =>
    rw [same]
    exact ⟨stock, dormant⟩
  | deadline d present => exact ⟨stock, dormant⟩
  | onset r enabled => exact ⟨stock, on enabled⟩
  | clear =>
    refine ⟨stock, fun off => ?_⟩
    obtain ⟨unknown, -, motion, window, -⟩ := dormant off
    exact ⟨unknown, rfl, motion, window, rfl⟩
  | emptied =>
    refine ⟨stock, fun off => ?_⟩
    obtain ⟨unknown, fault, motion, -, -⟩ := dormant off
    exact ⟨unknown, fault, motion, rfl, rfl⟩
  | sampled fresh window enabled unfaulted => exact ⟨stock, on enabled⟩
  | unsettled start reported inspection enabled unfaulted => exact ⟨stock, on enabled⟩
  | settled =>
    refine ⟨stock, fun off => ?_⟩
    obtain ⟨unknown, fault, -, -, fresh⟩ := dormant off
    exact ⟨unknown, fault, rfl, rfl, fresh⟩
  | counted c w range enabled h => exact h.agrees ordered enabled
  | minute => exact ⟨stock, dormant⟩
  | forecast p x range running => exact ⟨stock, dormant⟩
  | unknown =>
    refine ⟨nofun, fun off => ?_⟩
    obtain ⟨-, fault, -, -, fresh⟩ := dormant off
    exact ⟨rfl, fault, rfl, rfl, fresh⟩

theorem RecordActs.recordOk {cfg : SlotCfg} {v w : SlotLive} (acts : RecordActs cfg v w) (ok : RecordOk v) :
    RecordOk w := by
  induction acts with
  | refl => exact ok
  | tail _ act ih => exact act.recordOk ih

theorem RecordActs.agrees {cfg : SlotCfg} (ordered : cfg.reorder.toNat ≤ cfg.clear.toNat) {v w : SlotLive}
    (acts : RecordActs cfg v w) (agrees : RecordAgrees cfg v) : RecordAgrees cfg w := by
  induction acts with
  | refl => exact agrees
  | tail _ act ih => exact act.agrees ordered ih

end Sys2Proof.Machine
end

section
/-!
SUPPORT. What the slot engine's operations for one slot make of that slot's record, the held-back flag aside, and that
they leave the other records alone (R34 to R37, R45 to R49, R57 to R67).
-/

namespace Sys2Proof.Machine

/-! ## Work for one slot -/

/-- Work for slot `n`: on the slot path, and of the slot records only that of `n` may change, held-back flags aside. -/
structure SlotVisit (n : Slot) (s t : State) : Prop where
  path : SlotPath s t
  others : ∀ m, m ≠ n → SameButHeld (s.slot m) (t.slot m)

theorem SlotVisit.refl (n : Slot) (s : State) : SlotVisit n s s := ⟨.refl s, fun _ _ => .refl _⟩

theorem SlotVisit.trans {n : Slot} {s t u : State} (h : SlotVisit n s t) (k : SlotVisit n t u) : SlotVisit n s u :=
  ⟨h.path.trans k.path, fun m hm => (h.others m hm).trans (k.others m hm)⟩

theorem VisitFrame.slotPath {s t : State} (h : VisitFrame s t) : SlotPath s t := by
  unfold VisitFrame at h
  unfold SlotPath
  rw [h]

theorem Visit.slotVisit {n : Slot} {s t : State} (h : Visit n s t) : SlotVisit n s t := ⟨h.frame.slotPath, h.others⟩

theorem OnlySlot.slotVisit {n : Slot} {s t : State} (h : OnlySlot n s t) : SlotVisit n s t := h.visit.slotVisit

theorem OnlyAlerts.slotVisit {s t : State} (h : OnlyAlerts s t) (n : Slot) : SlotVisit n s t := (h.onlySlot n).slotVisit

theorem modSlot_slotVisit (s : State) (n : Slot) (f : SlotLive → SlotLive) : SlotVisit n s (s.modSlot n f) :=
  (modSlot_onlySlot s n f).slotVisit

section
variable {s t : State} (h : SlotPath s t)
include h

theorem SlotPath.node (n : Node) : t.node n = s.node n := by
  unfold State.node
  rw [SlotPath.nodes h]

theorem SlotPath.chan (c : Chan) : t.chan c = s.chan c := by
  unfold State.chan
  rw [SlotPath.chans h]

theorem SlotPath.now : t.now = s.now := by
  unfold State.now
  rw [SlotPath.time h]

theorem SlotPath.minute : t.minute = s.minute := by
  unfold State.minute
  rw [SlotPath.time h]

end

/-! ## Visiting slots in turn -/

section
variable (f : State → Slot → State) (visits : ∀ s n, SlotVisit n s (f s n))
include visits

/-- A slot that no work is done for keeps its record, its held-back flag aside. -/
theorem foldl_slotVisits_not_mem {ns : List Slot} {n : Slot} (h : n ∉ ns) (s : State) :
    SameButHeld (s.slot n) ((ns.foldl f s).slot n) := by
  induction ns generalizing s with
  | nil => exact .refl _
  | cons m ns ih =>
    rw [List.mem_cons, not_or] at h
    exact ((visits s m).others n h.1).trans (ih h.2 _)

/-- When work has been done once for every slot of a list, the record of each is as its own turn left it, held-back flag
aside, and that turn found the record as it was at the start. -/
theorem foldl_slotVisits_mem {ns : List Slot} (once : ns.Nodup) {n : Slot} (h : n ∈ ns) (s : State) :
    ∃ u, SlotPath s u ∧ SameButHeld (s.slot n) (u.slot n) ∧ SameButHeld ((f u n).slot n) ((ns.foldl f s).slot n) := by
  induction ns generalizing s with
  | nil => cases h
  | cons m ns ih =>
    rw [List.nodup_cons] at once
    obtain rfl | later := List.mem_cons.mp h
    · exact ⟨s, .refl s, .refl _, foldl_slotVisits_not_mem f visits once.1 _⟩
    · have apart : n ≠ m := fun e => once.1 (e ▸ later)
      obtain ⟨u, path, before, after⟩ := ih once.2 later (f s m)
      exact ⟨u, (visits s m).path.trans path, ((visits s m).others n apart).trans before, after⟩

end

/-! ## Faults -/

/-- The record after the onset of a fault (R35). -/
def SlotLive.faulted (r : FaultReason) (v : SlotLive) : SlotLive :=
  { v with fault := some r, fresh := 0, window := none, motion := none, motionReported := false }

/-- The state in which the onset of a fault raises its alert (R35). -/
def faultSet (b : Bank) (n : Slot) (s : State) : State :=
  clearMotion b n (s.modSlot n fun v => { v with fault := some (faultReasonOf b n s), fresh := 0, window := none })

theorem faultOnset_eq (b : Bank) (n : Slot) (s : State) : faultOnset b n s =
    raiseAlert b (slotAlert b n .fault (faultReasonOf b n s).alertReason ((faultSet b n s).slot n).count none
      (faultSet b n s)) (faultSet b n s) := rfl

theorem faultSet_slot (b : Bank) (n : Slot) (s : State) :
    (faultSet b n s).slot n = (s.slot n).faulted (faultReasonOf b n s) := by
  unfold faultSet
  rw [clearMotion_slot, State.slot_modSlot_self]
  rfl

theorem faultOnset_slot (b : Bank) (n : Slot) (s : State) :
    SameButHeld ((s.slot n).faulted (faultReasonOf b n s)) ((faultOnset b n s).slot n) := by
  rw [← faultSet_slot, faultOnset_eq]
  exact (raiseAlert_onlyAlerts b _ _).slot n

theorem faultClear_slot (n : Slot) (s : State) :
    (faultClear n s).slot n = { s.slot n with fault := none, fresh := 0 } := State.slot_modSlot_self s n _

/-- The fault test of an unfaulted slot (R34). -/
theorem faultTest_of_unfaulted {b : Bank} {n : Slot} {s : State} (h : (s.slot n).fault = none) :
    faultTest b n s = if faultCondition b n s then faultOnset b n s else s := by
  unfold faultTest
  rw [h]

/-- The fault test of a faulted slot (R34, R37). -/
theorem faultTest_of_faulted {b : Bank} {n : Slot} {s : State} (h : (s.slot n).fault.isSome = true) :
    faultTest b n s = if clearCondition b n s then faultClear n s else s := by
  obtain ⟨r, fault⟩ := Option.isSome_iff_exists.mp h
  unfold faultTest
  rw [fault]

/-! ## The fault conditions in the words of R34 -/

section
variable (b : Bank) (n : Slot) (s : State)

theorem silentMember_iff : ((b.liveMembers n).any fun p => (s.node (nodeOf p.1)).state = .silent) = true
    ↔ ∃ p ∈ b.liveMembers n, (s.node (nodeOf p.1)).state = .silent := by
  simp only [List.any_eq_true, decide_eq_true_eq]

theorem faultCondition_iff : faultCondition b n s = true
    ↔ (∃ p ∈ b.liveMembers n, (s.node (nodeOf p.1)).state = .silent)
      ∨ ∃ p ∈ b.liveMembers n, (s.chan p.1).badStreak = 3 := by
  simp only [faultCondition, List.any_eq_true, Bool.or_eq_true, decide_eq_true_eq, and_or_left, exists_or]

theorem clearCondition_iff : clearCondition b n s = true
    ↔ ∀ p ∈ b.liveMembers n, (s.node (nodeOf p.1)).state = .alive ∧ (s.chan p.1).badStreak = 0 := by
  simp only [clearCondition, List.all_eq_true, Bool.and_eq_true, decide_eq_true_eq]

end

/-! ## Stock evaluation and projection -/

theorem recompute_slot_le (b : Bank) (n : Slot) (s : State) : ∃ p x, p ≤ Config.noProjection ∧
    SameButHeld { s.slot n with projection := p, armed := x } ((recompute b n s).slot n) := by
  unfold recompute
  obtain ⟨x, written⟩ := arming_slot b n (s.modSlot n fun v =>
    { v with projection := projectionOf v.count (b.cfg n).forecast.toNat v.rate })
  rw [State.slot_modSlot_self] at written
  exact ⟨_, x, projectionOf_le _ _ _, written⟩

/-- The hand-off of an accepted count evaluates it and writes the projection and the armed flag (R67). -/
theorem handOff_slot (b : Bank) (n : Slot) (s : State) : ∃ p x, p ≤ Config.noProjection ∧
    SameButHeld { (s.slot n).evaluated (b.cfg n) s.minute with projection := p, armed := x } ((handOff b n s).slot n) := by
  obtain ⟨p, x, range, written⟩ := recompute_slot_le b n (stockEvaluate b n s)
  exact ⟨p, x, range,
    ((stockEvaluate_slot b n s).map (f := fun v => { v with projection := p, armed := x }) fun _ _ => rfl).trans written⟩

/-! ## Counting -/

theorem raiseInspect_slot (b : Bank) (n : Slot) (r : InspectReason) (c : Option Nat) (s : State) :
    SameButHeld { s.slot n with inspection := some r } ((raiseInspect b n r c s).slot n) := by
  have raised := (raiseAlert_onlyAlerts b (slotAlert b n .inspect r.alertReason c none s)
    (s.modSlot n fun v => { v with inspection := some r })).slot n
  rw [State.slot_modSlot_self] at raised
  exact raised

/-- A classified change writes the lifetime totals, the removed sum, which stays in its range, and the inspection
(R63 to R65, R97). -/
theorem classifyChange_slot (b : Bank) (n : Slot) (old c : Nat) (s : State) :
    ∃ u, u = { s.slot n with
        inspection := u.inspection, removed := u.removed, putBack := u.putBack, replenished := u.replenished
        removedSum := u.removedSum, held := u.held }
      ∧ ((s.slot n).removedSum ≤ Config.removedMax → u.removedSum ≤ Config.removedMax)
      ∧ (classifyChange b n old c s).slot n = u := by
  refine ⟨_, ?_, ?_, rfl⟩
  all_goals unfold classifyChange
  all_goals split
  · rw [take, State.slot_modSlot_self]
  · split
    · split
      · rw [replenish, State.slot_modSlot_self]
        rfl
      · unfold doPutBack
        dsimp only
        split
        · rw [(raiseInspect_slot b n _ _ _).eq, State.slot_modSlot_self]
        · rw [State.slot_modSlot_self]
    · rfl
  · rw [take, State.slot_modSlot_self]
    dsimp only
    intro range
    split
    · exact range
    · exact Nat.min_le_left _ _
  · split
    · split
      · rw [replenish, State.slot_modSlot_self]
        exact id
      · have put : ∀ v : SlotLive, v.removedSum ≤ Config.removedMax →
            (if (b.cfg n).forecast = 0 then v.removedSum else v.removedSum - (c - old)) ≤ Config.removedMax := by
          intro v range
          split
          · exact range
          · exact (Nat.sub_le _ _).trans range
        unfold doPutBack
        dsimp only
        split
        · rw [(raiseInspect_slot b n _ _ _).removedSum, State.slot_modSlot_self]
          exact put _
        · rw [State.slot_modSlot_self]
          exact put _
    · exact id

theorem classifyChange_slotVisit (b : Bank) (n : Slot) (old c : Nat) (s : State) :
    SlotVisit n s (classifyChange b n old c s) := by
  unfold classifyChange
  split
  · exact (take_onlySlot b n _ s).slotVisit
  · split
    · split
      · have added : ∀ id r, SlotVisit n s (s.setSession id r) := fun _ _ => ⟨rfl, fun _ _ => .refl _⟩
        exact (added _ _).trans (modSlot_slotVisit _ n _)
      · exact (doPutBack_onlySlot b n _ c s).slotVisit
    · exact .refl n s

/-- What the hand-off of a count makes of a record that bears it. -/
theorem handOff_counted {b : Bank} {n : Slot} {c : Nat} {s : State} {v : SlotLive}
    (frame : s.slot n = { v with
      count := some c, streak := 0, inspection := (s.slot n).inspection, removed := (s.slot n).removed
      putBack := (s.slot n).putBack, replenished := (s.slot n).replenished, removedSum := (s.slot n).removedSum
      elapsed := (s.slot n).elapsed, held := (s.slot n).held })
    (sum : v.removedSum ≤ Config.removedMax → (s.slot n).removedSum ≤ Config.removedMax) :
    Counted (b.cfg n) c v ((handOff b n s).slot n) := by
  obtain ⟨p, x, range, written⟩ := handOff_slot b n s
  have own : Counted (b.cfg n) c v { (s.slot n).evaluated (b.cfg n) s.minute with projection := p, armed := x } :=
    ⟨s.slot n, s.minute, p, x, frame, sum, range, rfl⟩
  exact own.same_right written

/-- An accepted count is stored with all that follows from it (R61 to R67). -/
theorem acceptedCount_slot (b : Bank) (n : Slot) (c : Nat) (s : State) :
    Counted (b.cfg n) c (s.slot n) ((acceptedCount b n c s).slot n) := by
  unfold acceptedCount
  dsimp only
  split
  · refine handOff_counted ?_ ?_
    all_goals unfold firstCount SlotLive.startForecast
    all_goals rw [State.slot_modSlot_self, State.slot_modSlot_self]
    · split <;> rfl
    · split <;> exact id
  · next old _ =>
    obtain ⟨u, frame, sum, change⟩ := classifyChange_slot b n old c (s.modSlot n fun v => { v with streak := 0 })
    rw [State.slot_modSlot_self] at frame sum
    refine handOff_counted ?_ ?_
    all_goals rw [State.slot_modSlot_self, change]
    · rw [frame]
    · exact sum

theorem acceptedCount_slotVisit (b : Bank) (n : Slot) (c : Nat) (s : State) :
    SlotVisit n s (acceptedCount b n c s) := by
  unfold acceptedCount
  dsimp only
  split
  · exact ((modSlot_slotVisit s n _).trans (modSlot_slotVisit _ n _)).trans (handOff_onlySlot b n _).slotVisit
  · exact (((modSlot_slotVisit s n _).trans (classifyChange_slotVisit b n _ c _)).trans
      (modSlot_slotVisit _ n _)).trans (handOff_onlySlot b n _).slotVisit

/-- An ambiguous count writes the streak and the inspection (R60). -/
theorem ambiguousCount_slot (b : Bank) (n : Slot) (s : State) :
    ∃ k i, SameButHeld { s.slot n with streak := k, inspection := i } ((ambiguousCount b n s).slot n) := by
  unfold ambiguousCount
  dsimp only
  split
  · split
    · have raised := raiseInspect_slot b n .ambiguous (s.slot n).count
        (s.modSlot n fun v => { v with streak := v.streak + 1 })
      rw [State.slot_modSlot_self] at raised
      exact ⟨_, _, raised⟩
    · exact ⟨_, _, by rw [State.slot_modSlot_self]; exact .refl _⟩
  · exact ⟨_, _, .refl _⟩

theorem counting_slotVisit (b : Bank) (n : Slot) (g : Int) (s : State) : SlotVisit n s (counting b n g s) := by
  unfold counting
  split
  · exact acceptedCount_slotVisit b n _ s
  · exact (ambiguousCount_onlySlot b n s).slotVisit

theorem countOf_le (cfg : SlotCfg) (g : Int) : countOf cfg g ≤ Config.countMax := by
  unfold countOf clamp
  omega

/-! ## Settle windows -/

theorem offerNodes_slot (b : Bank) (n m : Slot) (s : State) : (offerNodes b n s).slot m = s.slot m := by
  obtain ⟨l, k, h⟩ := offerNodes_eq b n s
  rw [h]
  rfl

theorem offerNodes_slotVisit (b : Bank) (n : Slot) (s : State) : SlotVisit n s (offerNodes b n s) :=
  ⟨offerNodes_slotPath b n s, fun m _ => by rw [offerNodes_slot]; exact .refl _⟩

/-- The motion limit test writes the motion-reported flag and the inspection (R48). -/
theorem motionLimitTest_slot (b : Bank) (n : Slot) (s : State) : ∃ r i,
    SameButHeld { s.slot n with motionReported := r, inspection := i } ((motionLimitTest b n s).slot n) := by
  unfold motionLimitTest
  dsimp only
  split
  · exact ⟨_, _, .refl _⟩
  · split
    · have raised := raiseInspect_slot b n .motion (s.slot n).count
        (s.modSlot n fun v => { v with motionReported := true })
      rw [State.slot_modSlot_self] at raised
      exact ⟨_, _, raised⟩
    · exact ⟨_, _, .refl _⟩

/-- An unsettled close empties the window and starts or keeps motion (R46, R48). -/
theorem unsettledClose_slot (b : Bank) (n : Slot) (s : State) : ∃ r i, SameButHeld { s.slot n with
      window := none, motion := some ((s.slot n).motion.getD s.now), motionReported := r, inspection := i }
    ((unsettledClose b n s).slot n) := by
  unfold unsettledClose
  dsimp only
  obtain ⟨r, i, tested⟩ := motionLimitTest_slot b n (offerNodes b n
    (s.modSlot n fun v => { v with window := none, motion := some (v.motion.getD s.now) }))
  rw [offerNodes_slot, State.slot_modSlot_self] at tested
  exact ⟨r, i, tested⟩

theorem unsettledClose_slotVisit (b : Bank) (n : Slot) (s : State) : SlotVisit n s (unsettledClose b n s) :=
  ((modSlot_slotVisit s n _).trans (offerNodes_slotVisit b n _)).trans (motionLimitTest_onlySlot b n _).slotVisit

/-- The record in which a settled close hands its weight to counting (R45, R49). -/
def SlotLive.atRest (g : Int) (v : SlotLive) : SlotLive :=
  { v with window := none, motion := none, motionReported := false, lastSettled := some g }

/-- The state in which a settled close hands its weight to counting. -/
def restState (b : Bank) (n : Slot) (g : Int) (s : State) : State :=
  (clearMotion b n (s.modSlot n fun v => { v with window := none })).modSlot n fun v => { v with lastSettled := some g }

theorem settledClose_eq (b : Bank) (n : Slot) (g : Int) (s : State) :
    settledClose b n g s = counting b n g (restState b n g s) := rfl

theorem restState_slot (b : Bank) (n : Slot) (g : Int) (s : State) :
    (restState b n g s).slot n = (s.slot n).atRest g := by
  unfold restState
  rw [State.slot_modSlot_self, clearMotion_slot, State.slot_modSlot_self]
  rfl

theorem settledClose_slotVisit (b : Bank) (n : Slot) (g : Int) (s : State) :
    SlotVisit n s (settledClose b n g s) :=
  (((modSlot_slotVisit s n _).trans (clearMotion_visit b n _).slotVisit).trans (modSlot_slotVisit _ n _)).trans
    (counting_slotVisit b n g _)

theorem takeSample_slotVisit (b : Bank) (n : Slot) (x : Int) (s : State) : SlotVisit n s (takeSample b n x s) := by
  unfold takeSample
  dsimp only
  split
  · exact modSlot_slotVisit s n _
  · exact settledClose_slotVisit b n _ s
  · exact unsettledClose_slotVisit b n s

theorem slotReply_slotVisit (b : Bank) (cs : List Chan) (n : Slot) (s : State) :
    SlotVisit n s (slotReply b cs n s) := by
  have tested := (faultTest_visit b n s).slotVisit
  unfold slotReply
  dsimp only
  split
  · exact tested
  · split
    · exact (tested.trans (modSlot_slotVisit _ n _)).trans (takeSample_slotVisit b n _ _)
    · exact tested.trans (modSlot_slotVisit _ n _)

/-! ## Reset to UNKNOWN -/

theorem zeroReset_visit (b : Bank) (n : Slot) (s : State) : Visit n s (zeroReset b n s) := by
  unfold zeroReset
  dsimp only
  refine Visit.trans ?_ ((withdrawSlot_onlyAlerts b n _ _).visit n)
  split
  · exact (modSlot_onlySlot s n _).visit.trans (leaveMotion_visit b n _)
  · exact (modSlot_onlySlot s n _).visit

theorem zeroReset_slot (b : Bank) (n : Slot) (s : State) :
    SameButHeld (s.slot n).toUnknown ((zeroReset b n s).slot n) := by
  unfold zeroReset
  dsimp only
  refine SameButHeld.trans ?_ ((withdrawSlot_onlyAlerts b n _ _).slot n)
  split
  · rw [leaveMotion_slot, State.slot_modSlot_self]
    exact .refl _
  · rw [State.slot_modSlot_self]
    exact .refl _

end Sys2Proof.Machine
end

section
/-!
SUPPORT. Every operation of the slot engine, the restock session table and the alert queue changes the slot records by
runs of `RecordAct`s (`SlotRecords`).
-/

namespace Sys2Proof.Machine

/-- Every slot's record is changed by acts for its settings in the bank. -/
def SlotRecords (b : Bank) (s t : State) : Prop := ∀ n, RecordActs (b.cfg n) (s.slot n) (t.slot n)

theorem SlotRecords.refl (b : Bank) (s : State) : SlotRecords b s s := fun _ => .refl

theorem SlotRecords.trans {b : Bank} {s t u : State} (h : SlotRecords b s t) (k : SlotRecords b t u) :
    SlotRecords b s u := fun n => (h n).trans (k n)

theorem SlotRecords.foldl {b : Bank} {α : Type} (f : State → α → State) {xs : List α}
    (h : ∀ s, ∀ x ∈ xs, SlotRecords b s (f s x)) (s : State) : SlotRecords b s (xs.foldl f s) := by
  induction xs generalizing s with
  | nil => exact .refl b s
  | cons x xs ih =>
    exact (h s x (List.mem_cons_self ..)).trans (ih (fun s y hy => h s y (List.mem_cons_of_mem _ hy)) _)

theorem SlotRecords.of_slots {b : Bank} {s t : State} (h : t.slots = s.slots) : SlotRecords b s t := fun n => by
  unfold State.slot
  rw [h]

theorem OnlyAlerts.records {s t : State} (h : OnlyAlerts s t) (b : Bank) : SlotRecords b s t := fun n => (h.slot n).acts

theorem SlotVisit.records {b : Bank} {n : Slot} {s t : State} (h : SlotVisit n s t)
    (own : RecordActs (b.cfg n) (s.slot n) (t.slot n)) : SlotRecords b s t := fun m => by
  by_cases here : m = n
  · subst here
    exact own
  · exact (h.others m here).acts

theorem modSlot_records {b : Bank} {n : Slot} {s : State} {f : SlotLive → SlotLive}
    (act : RecordAct (b.cfg n) (s.slot n) (f (s.slot n))) : SlotRecords b s (s.modSlot n f) :=
  (modSlot_slotVisit s n f).records (by rw [State.slot_modSlot_self]; exact .single act)

/-- An act, and the alert queue's part beside it. -/
theorem RecordAct.beside {cfg : SlotCfg} {v w w' : SlotLive} (act : RecordAct cfg v w) (same : SameButHeld w w') :
    RecordActs cfg v w' := (Relation.ReflTransGen.single act).trans same.acts

section
variable {b : Bank} {n : Slot} (enabled : (b.cfg n).enabled = true) (s : State)
include enabled

/-! ## Samples of an enabled slot -/

theorem faultTest_records : SlotRecords b s (faultTest b n s) := by
  refine (faultTest_visit b n s).slotVisit.records ?_
  cases fault : (s.slot n).fault with
  | none =>
    rw [faultTest_of_unfaulted fault]
    split
    · exact (RecordAct.onset _ enabled).beside (faultOnset_slot b n s)
    · exact .refl
  | some r =>
    rw [faultTest_of_faulted (by rw [fault]; rfl)]
    split
    · rw [faultClear_slot]
      exact .single .clear
    · exact .refl

theorem counting_records (g : Int) : SlotRecords b s (counting b n g s) := by
  refine (counting_slotVisit b n g s).records ?_
  unfold counting
  split
  · exact .single (.counted _ _ (countOf_le _ g) enabled (acceptedCount_slot b n _ s))
  · obtain ⟨k, i, written⟩ := ambiguousCount_slot b n s
    exact (RecordAct.aside _ rfl).beside written

theorem settledClose_records (g : Int) : SlotRecords b s (settledClose b n g s) := by
  refine (settledClose_slotVisit b n g s).records ?_
  have counted := counting_records enabled (restState b n g s) g n
  rw [restState_slot] at counted
  have rest : RecordActs (b.cfg n) (s.slot n) ((s.slot n).atRest g) :=
    (Relation.ReflTransGen.single .settled).tail (.aside _ rfl)
  exact rest.trans counted

theorem takeSample_records (unfaulted : (s.slot n).fault = none) (x : Int) :
    SlotRecords b s (takeSample b n x s) := by
  unfold takeSample
  dsimp only
  split
  · exact modSlot_records (.sampled _ _ enabled unfaulted)
  · exact settledClose_records enabled s _
  · refine (unsettledClose_slotVisit b n s).records ?_
    obtain ⟨r, i, written⟩ := unsettledClose_slot b n s
    exact (RecordAct.unsettled _ r i enabled unfaulted).beside written

theorem slotReply_records (cs : List Chan) : SlotRecords b s (slotReply b cs n s) := by
  have tested := faultTest_records enabled s
  unfold slotReply
  dsimp only
  split
  · exact tested
  · next unfaulted =>
    have unfaulted : ((faultTest b n s).slot n).fault = none := by simp_all
    refine tested.trans ?_
    split
    · refine (modSlot_records (.sampled 0 _ enabled unfaulted)).trans (takeSample_records enabled _ ?_ _)
      rw [State.slot_modSlot_self]
      exact unfaulted
    · exact modSlot_records (.sampled _ _ enabled unfaulted)

end

theorem enabled_of_mem_slotsOn {b : Bank} {node : Node} {n : Slot} (h : n ∈ b.slotsOn node) :
    (b.cfg n).enabled = true := by
  unfold Bank.slotsOn at h
  rw [List.mem_filter, Bool.and_eq_true] at h
  exact h.2.1

theorem nodeSilent_records (b : Bank) (node : Node) (s : State) : SlotRecords b s (nodeSilent b node s) :=
  .foldl _ (fun s _ hn => faultTest_records (enabled_of_mem_slotsOn hn) s) s

/-- The state and the converted channels when the readings of a reply have been taken (R23). -/
def readingsTaken (b : Bank) (node : Node) (payload : List Byte) (s : State) : State × List Chan :=
  ((nodeChans node).zip (parseReadings payload)).foldl (takeReading b) (s, [])

theorem handleSample_eq (node : Node) (payload : List Byte) (s : State) : handleSample node payload s =
    (s.acting.slotsOn node).foldl
      (fun u n => slotReply s.acting (readingsTaken s.acting node payload s).2 n u)
      (readingsTaken s.acting node payload s).1 := rfl

/-- The readings write channel records alone. -/
theorem readings_eq (b : Bank) (xs : List (Chan × Reading)) (acc : State × List Chan) :
    (xs.foldl (takeReading b) acc).1 = { acc.1 with chans := (xs.foldl (takeReading b) acc).1.chans } := by
  induction xs generalizing acc with
  | nil => rfl
  | cons x xs ih =>
    rw [List.foldl_cons, ih]
    rfl

theorem handleSample_records (node : Node) (payload : List Byte) (s : State) :
    SlotRecords s.acting s (handleSample node payload s) := by
  have read : SlotRecords s.acting s (readingsTaken s.acting node payload s).1 :=
    .of_slots (congrArg State.slots (readings_eq s.acting _ (s, [])) :)
  exact read.trans (.foldl _ (fun u _ hn => slotReply_records (enabled_of_mem_slotsOn hn) u _) _)

/-! ## ZERO (R51, R153) -/

theorem zeroReset_records (b b' : Bank) (n : Slot) (s : State) : SlotRecords b s (zeroReset b' n s) :=
  (zeroReset_visit b' n s).slotVisit.records (RecordAct.unknown.beside (zeroReset_slot b' n s))

/-- The channels' part of sending or ending a ZERO leaves the slots alone. -/
theorem flagChans_records (b : Bank) (cs : List Chan) (x : Bool) (s : State) :
    SlotRecords b s (cs.foldl (fun s c => s.modChan c fun r => { r with rezero := x }) s) :=
  .foldl _ (fun s c _ => .of_slots (State.modChan_slots s c _)) s

theorem zeroSend_records (b : Bank) (z : RezeroSet) (s : State) : SlotRecords b s (zeroSend z s) :=
  (flagChans_records b z.chans true s).trans (.foldl _ (fun _ _ _ => modSlot_records .emptied) _)

theorem zeroEnd_records (b : Bank) (z : RezeroSet) (ok : Bool) (s : State) : SlotRecords b s (zeroEnd z ok s) := by
  have flags := flagChans_records b z.chans false s
  unfold zeroEnd
  dsimp only
  split
  · exact flags.trans (.foldl _ (fun s n _ => zeroReset_records b _ n s) _)
  · exact flags

/-! ## The minute tick -/

theorem windowClose_records {b : Bank} {n : Slot} {s : State} (running : (s.slot n).elapsed ≠ none) :
    SlotRecords b s (windowClose b n s) := by
  refine (windowClose_onlySlot b n s).slotVisit.records ?_
  obtain ⟨p, x, range, written⟩ := recompute_slot_le b n (s.modSlot n fun v =>
    { v with rate := some v.removedSum, removedSum := 0, elapsed := some 0 })
  rw [State.slot_modSlot_self] at written
  exact (RecordAct.forecast p x range running).beside written

theorem forecastStep_records (b : Bank) (n : Slot) (s : State) : SlotRecords b s (forecastStep b n s) := by
  cases running : (s.slot n).elapsed with
  | none =>
    rw [forecastStep_of_idle running]
    exact .refl b s
  | some e =>
    have counted : SlotRecords b s (s.modSlot n fun v => { v with elapsed := some (e + 1) }) := by
      refine modSlot_records ?_
      have act := RecordAct.minute (cfg := b.cfg n) (v := s.slot n)
      rw [running] at act
      exact act
    rw [forecastStep_of_running running]
    split
    · exact counted.trans (windowClose_records (by rw [State.slot_modSlot_self]; nofun))
    · exact counted

theorem repeatStep_records (b : Bank) (n : Slot) (s : State) : SlotRecords b s (repeatStep b n s) := by
  refine (repeatStep_onlySlot b n s).slotVisit.records ?_
  have written := repeatStep_slot b n s
  split at written
  · exact (RecordAct.deadline _ (.inl Option.isSome_map)).beside written
  · exact written.acts

theorem slotsPass_records (b : Bank) (s : State) : SlotRecords b s (slotsPass b s) :=
  .foldl _ (fun s n _ => (repeatStep_records b n s).trans (forecastStep_records b n _)) s

theorem countWindows_records (b : Bank) (s : State) : SlotRecords b s (countWindows s) := fun n => by
  rw [countWindows_slot]
  exact .single .minute

theorem closeSlot_records (b : Bank) (n : Slot) (s : State) : SlotRecords b s (closeSlot b n s) := by
  refine (closeSlot_onlySlot b n s).slotVisit.records ?_
  have written := closeSlot_slot b n s
  unfold SlotLive.closed at written
  split at written
  · next short =>
    rw [Bool.and_eq_true] at short
    have set : RecordAct (b.cfg n) (s.slot n)
        { s.slot n with deadline := some (s.minute + BitVec.ofNat 32 (b.cfg n).interval.toNat) } :=
      .deadline _ (.inr short.2.symm)
    exact (Relation.ReflTransGen.single set).trans ((RecordAct.aside _ rfl).beside written)
  · exact (RecordAct.aside _ rfl).beside written

theorem closeSession_records (b : Bank) (id : SessionId) (r : Session) (x : Bool) (s : State) :
    SlotRecords b s (closeSession b id r x s) := by
  have free : SlotRecords b s (s.setSession id none) := .of_slots rfl
  unfold closeSession
  dsimp only
  refine SlotRecords.trans ?_ (.foldl _ (fun s n _ => closeSlot_records b n s) _)
  split
  · exact free.trans ((raiseAlert_onlyAlerts b _ _).records b)
  · exact free

theorem expireOne_records (b : Bank) (id : SessionId) (s : State) : SlotRecords b s (expireOne b id s) := by
  unfold expireOne
  split
  · split
    · exact closeSession_records b id _ true s
    · exact .refl b s
  · exact .refl b s

theorem minuteWork_records (o : TickOrder) (s : State) : SlotRecords s.acting s (minuteWork o s) := by
  have sessions : ∀ b s, SlotRecords b s (sessionsPass b s) := fun b s =>
    .foldl _ (fun s id _ => expireOne_records b id s) s
  cases o with
  | sessionsFirst => exact (sessions _ s).trans (slotsPass_records _ _)
  | slotsFirst => exact (slotsPass_records _ s).trans (sessions _ _)
  | separately => exact countWindows_records _ s

/-! ## Requests -/

theorem acknowledge_records (b : Bank) (n : Slot) (s : State) : SlotRecords b s (acknowledge b n s) :=
  (modSlot_records (.aside _ rfl)).trans ((withdrawSlot_onlyAlerts b n _ _).records b)

theorem openSession_records (b : Bank) (id : SessionId) (r : Session) (s : State) :
    SlotRecords b s (openSession id r s) := by
  have opened : SlotRecords b s (s.setSession id (some r)) := .of_slots rfl
  exact opened.trans (.foldl _ (fun _ _ _ => modSlot_records (.aside _ rfl)) _)

end Sys2Proof.Machine
end

section
/-!
SUPPORT. What every command does to the slot records and to the serving bank: it sets all records back, it leaves records
and settings alone, or it makes a run of changes by acts under the serving bank's settings and of completions of a
switch. Settles O58 and O60.
-/

namespace Sys2Proof.Machine

/-! ## A decision of the arbiter -/

/-- A relation that every single thing an arbiter's decision is made of fulfils. -/
structure Decides (R : State → State → Prop) : Prop where
  refl : ∀ s, R s s
  trans : ∀ {s t u}, R s t → R t u → R s u
  poll : ∀ node m s, R s (startPoll node m s)
  forward : ∀ f rest s, s.trunk.forwards = f :: rest → R s (startForward f rest s)
  advance : ∀ s, R s (advanceRoster s).1
  mark : ∀ s, R s (s.modTrunk fun t => { t with rosterEmpty := true })

section
variable {R : State → State → Prop} (h : Decides R)
include h

theorem Decides.skipPass (k : Nat) (s : State) : R s (skipPass k s).1 := by
  induction k generalizing s with
  | zero =>
    unfold Machine.skipPass
    split
    · exact h.poll _ _ s
    · exact h.mark s
  | succ k ih =>
    have step := h.advance s
    unfold Machine.skipPass
    split
    · exact h.poll _ _ s
    · split
      · next e => rw [e] at step; exact step
      · next e => rw [e] at step; exact h.trans step (ih _)

theorem Decides.makePoll (s : State) : R s (makePoll s).1 := by
  unfold Machine.makePoll
  split
  · split
    · exact h.poll _ _ s
    · exact h.refl s
  · exact h.skipPass _ s

theorem Decides.arbiter (k : Nat) (s : State) : R s (arbiter k s) := by
  induction k generalizing s with
  | zero => exact h.refl s
  | succ k ih =>
    have polled := h.makePoll s
    have poll : R s (match Machine.makePoll s with
        | (s', true) => Machine.arbiter k s'
        | (s', false) => s') := by
      split
      · next e => rw [e] at polled; exact h.trans polled (ih _)
      · next e => rw [e] at polled; exact polled
    unfold Machine.arbiter
    split
    · exact h.refl s
    · split
      · exact poll
      · split
        · next head => exact h.forward _ _ s head
        · split
          · exact poll
          · exact h.refl s

/-- A decision of the arbiter fulfils what its parts fulfil. -/
theorem Decides.arbitrate (s : State) : R s (arbitrate s) := h.arbiter _ s

end

/-! ## Changes of the slot records and the serving bank -/

/-- The slot records change by acts for the serving bank's settings, which stay. -/
structure SlotWork (s t : State) : Prop where
  banks : ∀ id, t.store.bank id = s.store.bank id
  serving : t.store.serving = s.store.serving
  records : SlotRecords s.acting s t

/-- One change of the slot records or of the serving bank. -/
inductive SlotStep : State → State → Prop
  | work {s t : State} (h : SlotWork s t) : SlotStep s t
  | switch (target : BankId) (s : State) : SlotStep s (completeSwitch target s)

/-- A run of changes of the slot records and the serving bank. -/
abbrev SlotSteps : State → State → Prop := Relation.ReflTransGen SlotStep

theorem SlotWork.steps {s t : State} (h : SlotWork s t) : SlotSteps s t := .single (.work h)

/-- What leaves the slot records, the banks and the serving bank alone. -/
theorem steps_of_aside {s t : State} (slots : t.slots = s.slots) (banks : ∀ id, t.store.bank id = s.store.bank id)
    (serving : t.store.serving = s.store.serving) : SlotSteps s t :=
  SlotWork.steps ⟨banks, serving, .of_slots slots⟩

theorem steps_of_store {s t : State} (store : t.store = s.store) (records : SlotRecords s.acting s t) : SlotSteps s t :=
  SlotWork.steps ⟨fun id => by rw [store], by rw [store], records⟩

theorem OnlyAlerts.steps {s t : State} (h : OnlyAlerts s t) : SlotSteps s t := steps_of_store h.store (h.records _)

theorem modTrunk_steps (s : State) (f : Trunk → Trunk) : SlotSteps s (s.modTrunk f) :=
  steps_of_aside rfl (fun _ => rfl) rfl

theorem modLink_steps (s : State) (f : AisleLink → AisleLink) : SlotSteps s (s.modLink f) :=
  steps_of_aside rfl (fun _ => rfl) rfl

theorem modMgmt_steps (s : State) (f : Mgmt → Mgmt) : SlotSteps s (s.modMgmt f) :=
  steps_of_aside rfl (fun _ => rfl) rfl

theorem modCounters_steps (s : State) (f : Counters → Counters) : SlotSteps s (s.modCounters f) :=
  steps_of_aside rfl (fun _ => rfl) rfl

/-- A switch becomes pending, or is cancelled. -/
theorem modRequested_steps (s : State) (r : Option BankId) :
    SlotSteps s (s.modStore fun st => { st with requested := r }) :=
  steps_of_aside rfl (fun id => by cases id <;> rfl) rfl

/-! ## The trunk -/

theorem zeroSend_steps (z : RezeroSet) (s : State) : SlotSteps s (zeroSend z s) := by
  refine steps_of_store ?_ (zeroSend_records _ z s)
  unfold zeroSend
  exact (foldl_keeps State.store _ (by intros; rfl) z.slots _).trans
    (foldl_keeps State.store _ (by intros; rfl) z.chans s)

theorem zeroEnd_store (z : RezeroSet) (ok : Bool) (s : State) : (zeroEnd z ok s).store = s.store := by
  have flags := foldl_keeps State.store (fun s c => s.modChan c fun r => { r with rezero := false })
    (by intros; rfl) z.chans s
  unfold zeroEnd
  dsimp only
  split
  · exact (SlotPath.foldl _ (fun s n => zeroReset_slotPath _ n s) _ _).store.trans flags
  · exact flags

theorem zeroEnd_steps (z : RezeroSet) (ok : Bool) (s : State) : SlotSteps s (zeroEnd z ok s) :=
  steps_of_store (zeroEnd_store z ok s) (zeroEnd_records _ z ok s)

theorem startForward_steps (f : Frame) (rest : List Frame) (s : State) : SlotSteps s (startForward f rest s) := by
  unfold startForward
  dsimp only
  refine Relation.ReflTransGen.trans ?_ (modTrunk_steps _ _)
  split
  · exact zeroSend_steps _ s
  · exact .refl

theorem advanceRoster_steps (s : State) : SlotSteps s (advanceRoster s).1 := by
  unfold advanceRoster
  split
  · exact steps_of_aside rfl (fun _ => rfl) rfl
  · dsimp only
    split
    · exact (modTrunk_steps s _).tail (.switch _ _)
    · exact steps_of_aside rfl (fun _ => rfl) rfl

theorem steps_decides : Decides SlotSteps where
  refl _ := .refl
  trans h k := h.trans k
  poll _ _ _ := steps_of_aside rfl (fun _ => rfl) rfl
  forward f rest s _ := startForward_steps f rest s
  advance := advanceRoster_steps
  mark s := modTrunk_steps s _

theorem arbitrate_steps (s : State) : SlotSteps s (arbitrate s) := steps_decides.arbitrate s

theorem endPoll_steps (m : Bool) (s : State) : SlotSteps s (endPoll m s) := by
  have ended : SlotSteps s s.endTxn := modTrunk_steps s _
  unfold endPoll
  dsimp only
  split
  · exact ended.trans (arbitrate_steps _)
  · exact ((ended.trans (modTrunk_steps _ _)).trans (advanceRoster_steps _)).trans (arbitrate_steps _)

theorem nodeSilent_steps (node : Node) (s : State) : SlotSteps s (nodeSilent s.acting node s) :=
  steps_of_store (nodeSilent_slotPath _ node s).store (nodeSilent_records _ node s)

theorem pollMissed_steps (node : Node) (m : Bool) (s : State) : SlotSteps s (pollMissed node m s) := by
  unfold pollMissed
  dsimp only
  refine Relation.ReflTransGen.trans ?_ (endPoll_steps m _)
  split
  · exact ((modTrunk_steps s _).trans (modTrunk_steps _ _)).trans (nodeSilent_steps node _)
  · exact modTrunk_steps s _

theorem handleSample_store (node : Node) (payload : List Byte) (s : State) :
    (handleSample node payload s).store = s.store := by
  rw [handleSample_eq]
  exact (SlotPath.foldl _ (fun u n => slotReply_slotPath _ _ n u) _ _).store.trans
    (congrArg State.store (readings_eq s.acting _ (s, [])) :)

theorem pollAccepted_steps (node : Node) (m : Bool) (payload : List Byte) (s : State) :
    SlotSteps s (pollAccepted node m payload s) :=
  ((modTrunk_steps s _).trans (steps_of_store (handleSample_store node payload _) (handleSample_records node payload _))).trans
    (endPoll_steps m _)

theorem placeReturn_steps (f : Frame) (s : State) : SlotSteps s (placeReturn f s) := by
  unfold placeReturn
  split
  · exact modLink_steps s _
  · exact modCounters_steps s _

theorem endForward_steps (f : Frame) (z : Option RezeroSet) (ok : Bool) (s : State) :
    SlotSteps s (endForward f z ok s) := by
  have placed : SlotSteps s (placeReturn f s.endTxn) := (modTrunk_steps s _).trans (placeReturn_steps f _)
  unfold endForward
  dsimp only
  refine Relation.ReflTransGen.trans ?_ (arbitrate_steps _)
  split
  · exact placed.trans (zeroEnd_steps _ ok _)
  · exact placed

theorem lateFrame_steps (f : Frame) (s : State) : SlotSteps s (lateFrame f s) := by
  unfold lateFrame
  split
  · split
    · exact steps_of_aside rfl (fun _ => rfl) rfl
    · exact .refl
  · exact .refl

theorem windowFrame_steps (x : Transaction) (f : Frame) (s : State) : SlotSteps s (windowFrame x f s) := by
  unfold windowFrame
  split
  · split
    · exact pollAccepted_steps _ _ _ s
    · exact steps_of_aside rfl (fun _ => rfl) rfl
    · exact pollMissed_steps _ _ s
  · split
    · exact endForward_steps _ _ _ s
    · exact .refl
  · exact .refl

theorem trunkFrame_steps (f : Frame) (s : State) : SlotSteps s (trunkFrame f s) := by
  unfold trunkFrame
  split
  · split
    · exact lateFrame_steps f s
    · exact windowFrame_steps _ f s
  · exact lateFrame_steps f s

theorem trunkAbandon_steps (s : State) : SlotSteps s (trunkAbandon s) := by
  unfold trunkAbandon
  split
  · exact pollMissed_steps _ _ s
  · exact .refl

theorem trunkByte_steps (s : State) (b : RxByte) : SlotSteps s (trunkByte s b) := by
  refine (modTrunk_steps s fun t => { t with rx := (s.trunk.rx.receive b).1 }).trans ?_
  show SlotSteps _ (trunkEvent (s.trunk.rx.receive b).2 _)
  cases (s.trunk.rx.receive b).2 with
  | nothing => exact .refl
  | frame f => exact trunkFrame_steps f _
  | overLength => exact trunkAbandon_steps _
  | framingInHunt => exact .refl
  | framingInFrame => exact trunkAbandon_steps _

/-! ## The aisle link -/

theorem dispatch_steps (f : Frame) (s : State) : SlotSteps s (dispatch f s) := by
  unfold dispatch queueRequest queueForward
  split
  · split
    · exact modMgmt_steps s _
    · exact modCounters_steps s _
  · split
    · split
      · exact (modTrunk_steps s _).trans (arbitrate_steps _)
      · exact modCounters_steps s _
    · exact modCounters_steps s _

theorem linkByte_steps (s : State) (b : RxByte) : SlotSteps s (linkByte s b) := by
  refine (modLink_steps s fun l => { l with rx := (s.link.rx.receive b).1 }).trans ?_
  show SlotSteps _ (linkEvent (s.link.rx.receive b).2 _)
  unfold linkEvent
  split
  · exact .refl
  · split
    · exact dispatch_steps _ _
    · exact modCounters_steps _ _
  · exact modCounters_steps _ _
  · exact modCounters_steps _ _
  · exact modCounters_steps _ _

/-! ## Requests -/

theorem finish_steps {f : Frame} {code : Byte} {a : Answer} {s : State} (h : SlotSteps s a.state) :
    SlotSteps s (finish f code a) := by
  have answered : SlotSteps s (a.state.respond f.tag code a.status a.results) := h.trans (modMgmt_steps _ _)
  unfold finish
  dsimp only
  split
  · exact answered.trans (arbitrate_steps _)
  · exact answered

theorem takeRequest_steps (code : Byte) (k : Source → List Byte → State → Answer)
    (h : ∀ src args s, SlotSteps s (k src args s).state) (s : State) : SlotSteps s (takeRequest code k s) := by
  obtain same | ⟨f, src, args, -, taken⟩ := takeRequest_cases s code k
  · rw [same]
  · have dropped : SlotSteps s s.dropRequest := modMgmt_steps s _
    rw [taken]
    exact finish_steps (dropped.trans (h src args _))

theorem readRecordsRequest_steps (src : Source) (args : List Byte) (s : State) :
    SlotSteps s (readRecordsRequest src args s).state := by
  unfold readRecordsRequest
  dsimp only
  split
  · split
    · exact .refl
    · split <;> exact .refl
  · exact .refl

theorem listRequest_steps (f : State → Fin 256 → List Byte) (args : List Byte) (s : State) :
    SlotSteps s (listRequest f args s).state := by
  unfold listRequest
  split <;> exact .refl

theorem denied_steps (src : Source) (code : Byte) (n : Option Slot) (s : State) :
    SlotSteps s (Answer.denied src code n s).state :=
  steps_of_aside rfl (fun _ => rfl) rfl

theorem switchRequest_steps (src : Source) (args : List Byte) (s : State) :
    SlotSteps s (switchRequest src args s).state := by
  unfold switchRequest switchAnswer
  split
  · exact .refl
  · split
    · exact denied_steps _ _ _ s
    · split
      · split
        · exact modRequested_steps s none
        · exact .refl
      · split
        · exact .refl
        · split
          · exact .single (.switch _ s)
          · exact steps_of_aside rfl (fun id => by cases id <;> rfl) rfl

theorem cancelRequest_steps (src : Source) (args : List Byte) (s : State) :
    SlotSteps s (cancelRequest src args s).state := by
  unfold cancelRequest switchAnswer
  split
  · exact denied_steps _ _ _ s
  · split
    · exact modRequested_steps s none
    · exact .refl

theorem openRequest_steps (src : Source) (args : List Byte) (s : State) :
    SlotSteps s (openRequest src args s).state := by
  unfold openRequest
  dsimp only
  split
  · exact .refl
  · split
    · exact .refl
    · split
      · exact denied_steps _ _ _ s
      · split
        · exact .refl
        · split
          · exact .refl
          · exact steps_of_store (openSession_slotPath _ _ s).store (openSession_records _ _ _ s)

theorem closeRequest_steps (src : Source) (args : List Byte) (s : State) :
    SlotSteps s (closeRequest src args s).state := by
  unfold closeRequest
  split
  · dsimp only
    split
    · exact .refl
    · split
      · exact denied_steps _ _ _ s
      · exact steps_of_store (closeSession_slotPath _ _ _ _ s).store (closeSession_records _ _ _ _ s)
  · exact .refl

theorem ackRequest_steps (src : Source) (args : List Byte) (s : State) : SlotSteps s (ackRequest src args s).state := by
  have each : ∀ (ns : List Slot) (acc : State × List Status), SlotSteps acc.1 (ns.foldl (ackOne src) acc).1 := by
    intro ns
    induction ns with
    | nil => exact fun acc => .refl
    | cons n ns ih =>
      intro acc
      refine Relation.ReflTransGen.trans ?_ (ih (ackOne src acc n))
      unfold ackOne
      split
      · exact steps_of_store (acknowledge_onlySlot _ n _).store (acknowledge_records _ n _)
      · exact steps_of_aside rfl (fun _ => rfl) rfl
  unfold ackRequest
  split
  · exact .refl
  · exact each _ (s, [])

theorem applyMask_steps (suppress enable : BitVec 7) (s : State) : SlotSteps s (applyMask suppress enable s) := by
  unfold applyMask
  exact ((modMgmt_steps s _).trans (clearHeld_onlyAlerts _ _).steps).trans (withdrawKinds_onlyAlerts _ _ _).steps

theorem maskRequest_steps (src : Source) (args : List Byte) (s : State) : SlotSteps s (maskRequest src args s).state := by
  unfold maskRequest
  split
  · exact .refl
  · split
    · exact denied_steps _ _ _ s
    · exact applyMask_steps _ _ s

theorem zoneRequest_steps (src : Source) (args : List Byte) (s : State) : SlotSteps s (zoneRequest src args s).state := by
  unfold zoneRequest zoneAnswer
  split
  · split
    · exact denied_steps _ _ _ s
    · split
      · exact .refl
      · exact steps_of_aside rfl (fun _ => rfl) rfl
  · exact .refl

theorem rightsRequest_steps (src : Source) (args : List Byte) (s : State) :
    SlotSteps s (rightsRequest src args s).state := by
  unfold rightsRequest zoneAnswer
  split
  · split
    · exact denied_steps _ _ _ s
    · split
      · exact .refl
      · exact steps_of_aside rfl (fun _ => rfl) rfl
  · exact .refl

theorem lockRequest_steps (src : Source) (args : List Byte) (s : State) : SlotSteps s (lockRequest src args s).state := by
  unfold lockRequest zoneAnswer
  split
  · exact denied_steps _ _ _ s
  · split
    · exact .refl
    · exact steps_of_aside rfl (fun _ => rfl) rfl

theorem clearRequest_steps (src : Source) (args : List Byte) (s : State) :
    SlotSteps s (clearRequest src args s).state := by
  unfold clearRequest
  split
  · exact denied_steps _ _ _ s
  · exact steps_of_aside rfl (fun _ => rfl) rfl

theorem faultsRequest_steps (src : Source) (args : List Byte) (s : State) :
    SlotSteps s (faultsRequest src args s).state := by
  unfold faultsRequest
  split
  · exact denied_steps _ _ _ s
  · exact steps_of_aside rfl (fun _ => rfl) rfl

theorem softResetRequest_steps (src : Source) (args : List Byte) (s : State) :
    SlotSteps s (softResetRequest src args s).state := by
  unfold softResetRequest
  split
  · exact denied_steps _ _ _ s
  · exact steps_of_aside rfl (fun _ => rfl) rfl

/-! ## All commands -/

/-- What a command can make of the slot records and the acting bank. -/
inductive SlotEffect (s : State) : State → Prop
  | reset {t : State} (h : ∀ n, t.slot n = SlotLive.reset) : SlotEffect s t
  | aside {t : State} (slots : t.slots = s.slots) (acting : t.acting = s.acting) : SlotEffect s t
  | steps {t : State} (h : SlotSteps s t) : SlotEffect s t

theorem tick_steps (o : TickOrder) (s : State) : SlotSteps s (tick o s) := by
  have second : SlotSteps s (secondTick s) := steps_of_aside rfl (fun _ => rfl) rfl
  unfold tick
  split
  · have minute : SlotSteps (secondTick s)
        { secondTick s with time := { (secondTick s).time with minutes := (secondTick s).time.minutes + 1 } } :=
      steps_of_aside rfl (fun _ => rfl) rfl
    exact (second.trans minute).trans
      (steps_of_store (minuteWork_slotPath o _).store (minuteWork_records o _))
  · exact second

theorem afterSoftReset_slot (s : State) (n : Slot) : s.afterSoftReset.slot n = SlotLive.reset := by
  simp [State.slot]

/-- A LOAD_RECORDS writes a bank that does not serve, and a COPY_BANK the other one; neither touches a slot. -/
theorem loadMoves_slots {bank : BankId} {s t : State} (h : LoadMoves bank s t) : t.slots = s.slots := by
  induction h with
  | refl => rfl
  | tail _ move ih =>
    refine Eq.trans ?_ ih
    cases move <;> rfl

theorem LoadFrame.acting {bank : BankId} {s t : State} (h : LoadFrame bank s t) (idle : s.store.serving ≠ some bank) :
    t.acting = s.acting := by
  unfold State.acting
  rw [h.serving]
  cases serving : s.store.serving with
  | none => rfl
  | some id =>
    obtain rfl : id = bank.other := BankId.eq_other_of_ne fun e => idle (by rw [serving, e])
    exact h.other

theorem slotEffect_of_request {s : State} (code : Byte) (k : Source → List Byte → State → Answer)
    (h : ∀ src args s, SlotSteps s (k src args s).state) : SlotEffect s (takeRequest code k s) :=
  .steps (takeRequest_steps code k h s)

theorem loadRecords_slotEffect (s : State) : SlotEffect s (takeRequest codeLoadRecords loadRequest s) := by
  obtain same | ⟨f, src, args, -, taken⟩ := takeRequest_cases s codeLoadRecords loadRequest
  · rw [same]
    exact .steps .refl
  · have dropped : SlotSteps s s.dropRequest := modMgmt_steps s _
    rw [taken]
    unfold loadRequest
    dsimp only
    split
    · exact .steps (finish_steps dropped)
    · next passed =>
      split
      · next kind bank _ code =>
        have loaded := loadRecords_moves src (loadArgs args) kind bank
          (splitRecords kind.recordSize (loadArgs args).count (args.drop loadFixed))
          (s.dropRequest, ⟨(loadArgs args).start, 0, 0, none⟩)
        exact .aside (loadMoves_slots loaded :) ((LoadMoves.frame loaded).acting (loadChecks_none_bank code passed).1 :)
      · exact .steps (finish_steps dropped)

theorem copyBank_slotEffect (s : State) : SlotEffect s (takeRequest codeCopyBank copyRequest s) := by
  obtain same | ⟨f, src, args, -, taken⟩ := takeRequest_cases s codeCopyBank copyRequest
  · rw [same]
    exact .steps .refl
  · have dropped : SlotSteps s s.dropRequest := modMgmt_steps s _
    rw [taken]
    unfold copyRequest
    split
    · exact .steps (finish_steps (dropped.trans (denied_steps _ _ _ _)))
    · split
      · exact .steps (finish_steps dropped)
      · next id serving =>
        split
        · exact .steps (finish_steps dropped)
        · refine .aside rfl ?_
          have serving : s.store.serving = some id := serving
          unfold State.acting
          cases id <;> simp [serving, finish, State.respond, TableStore.setBank, TableStore.bank, BankId.other]

theorem steps_foldl {α : Type} (f : State → α → State) (h : ∀ s x, SlotSteps s (f s x)) (xs : List α) (s : State) :
    SlotSteps s (xs.foldl f s) := by
  induction xs generalizing s with
  | nil => exact .refl
  | cons x xs ih => exact (h s x).trans (ih _)

theorem undefinedRequest_steps {s t : State} (h : execUndefinedRequest s = .next t) : SlotSteps s t := by
  cases h
  split
  · exact .refl
  · split
    · exact steps_of_aside rfl (fun _ => rfl) rfl
    · exact .refl

theorem responsePartGrant_steps {s t : State} (h : execResponsePartGrant s = .next t) : SlotSteps s t := by
  cases h
  split
  · split
    · exact steps_of_aside rfl (fun _ => rfl) rfl
    · exact .refl
  · exact .refl

theorem returnFrameGrant_steps {s t : State} (h : execReturnFrameGrant s = .next t) : SlotSteps s t := by
  cases h
  split
  · split
    · exact steps_of_aside rfl (fun _ => rfl) rfl
    · exact .refl
  · exact .refl

theorem sendAlerts_steps (s : State) : SlotSteps s (sendAlerts s) := by
  unfold sendAlerts
  dsimp only
  refine Relation.ReflTransGen.trans ?_ (reoffers_onlyAlerts _ _ _).steps
  exact steps_of_aside rfl (fun _ => rfl) rfl

theorem trunkFrameSent_steps {s t : State} (h : execTrunkFrameSent s = .next t) : SlotSteps s t := by
  cases h
  split
  · exact (modTrunk_steps s _).trans (arbitrate_steps _)
  · exact steps_of_aside rfl (fun _ => rfl) rfl
  · exact .refl

theorem trunkGapAbandon_steps {s t : State} (h : execTrunkGapAbandon s = .next t) : SlotSteps s t := by
  have cut : SlotSteps s (s.modTrunk fun t => { t with rx := Assembler.reset }) := modTrunk_steps s _
  cases h
  split
  · exact cut.trans (trunkAbandon_steps _)
  · exact cut

theorem replyWindowClose_steps {s t : State} (h : execReplyWindowClose s = .next t) : SlotSteps s t := by
  have cut : SlotSteps s (s.modTrunk fun t => { t with rx := if t.rx.inFrame then Assembler.reset else t.rx }) :=
    modTrunk_steps s _
  cases h
  split
  · exact cut.trans (pollMissed_steps _ _ _)
  · exact cut.trans (endForward_steps _ _ _ _)
  · exact .refl

theorem listenPeriodEnd_steps {s t : State} (h : execListenPeriodEnd s = .next t) : SlotSteps s t := by
  cases h
  split
  · exact (modTrunk_steps s _).trans (arbitrate_steps _)
  · exact .refl

theorem trunkFrameAbandoned_steps {b : RxByte} {s t : State} (h : execTrunkFrameAbandoned b s = .next t) :
    SlotSteps s t := by
  cases h
  split
  · exact trunkByte_steps s b
  · exact trunkByte_steps s b
  · exact .refl

theorem forecastWindowClose_steps {n : Slot} {s t : State} (h : execForecastWindowClose n s = .next t) :
    SlotSteps s t := by
  cases h
  split
  · next done =>
    refine steps_of_store (windowClose_onlySlot _ n s).store (windowClose_records fun idle => ?_)
    unfold windowDone at done
    rw [idle] at done
    cases done
  · exact .refl

/-- What every command makes of the slot records and the acting bank. -/
theorem exec_slotEffect {c : Instr} {s t : State} (h : exec c s = .next t) : SlotEffect s t := by
  cases c with
  | powerOn strap => cases h; exact .reset (slot_powered _ _ _)
  | pinReset strap => cases h; exact .reset (slot_powered _ _ _)
  | oneSecondTick o => cases h; exact .steps (tick_steps o s)
  | minuteTick o =>
    cases h
    split
    · exact .steps (tick_steps o s)
    · exact .steps .refl
  | repeatAlert n =>
    cases h
    exact .steps (steps_of_store (repeatStep_onlySlot _ n s).store (repeatStep_records _ n s))
  | sessionExpiry id =>
    cases h
    exact .steps (steps_of_store (expireOne_slotPath _ id s).store (expireOne_records _ id s))
  | forecastWindowClose n => exact .steps (forecastWindowClose_steps h)
  | alinkFrameReceived bytes => cases h; exact .steps (steps_foldl _ linkByte_steps bytes s)
  | alinkGapAbandon => cases h; split <;> exact .steps (steps_of_aside rfl (fun _ => rfl) rfl)
  | loadRecords => cases h; exact loadRecords_slotEffect s
  | readRecords => cases h; exact slotEffect_of_request _ _ readRecordsRequest_steps
  | copyBank => cases h; exact copyBank_slotEffect s
  | switchBank => cases h; exact slotEffect_of_request _ _ switchRequest_steps
  | cancelSwitch => cases h; exact slotEffect_of_request _ _ cancelRequest_steps
  | openRestock => cases h; exact slotEffect_of_request _ _ openRequest_steps
  | closeRestock => cases h; exact slotEffect_of_request _ _ closeRequest_steps
  | ackSlot => cases h; exact slotEffect_of_request _ _ ackRequest_steps
  | setAlertMask => cases h; exact slotEffect_of_request _ _ maskRequest_steps
  | setZone => cases h; exact slotEffect_of_request _ _ zoneRequest_steps
  | setSourceRights => cases h; exact slotEffect_of_request _ _ rightsRequest_steps
  | lockZones => cases h; exact slotEffect_of_request _ _ lockRequest_steps
  | readStatus => cases h; exact slotEffect_of_request _ _ fun _ _ _ => .refl
  | readSlot => cases h; exact slotEffect_of_request _ _ fun _ => listRequest_steps slotBytes
  | readChannel => cases h; exact slotEffect_of_request _ _ fun _ => listRequest_steps chanBytes
  | readNodes => cases h; exact slotEffect_of_request _ _ fun _ _ _ => .refl
  | readCounters => cases h; exact slotEffect_of_request _ _ fun _ _ _ => .refl
  | clearCounters => cases h; exact slotEffect_of_request _ _ clearRequest_steps
  | readFaults => cases h; exact slotEffect_of_request _ _ faultsRequest_steps
  | softReset => cases h; exact slotEffect_of_request _ _ softResetRequest_steps
  | undefinedRequest => exact .steps (undefinedRequest_steps h)
  | resetPoint =>
    cases h
    split
    · exact .reset (afterSoftReset_slot s)
    · exact .steps .refl
  | responsePartGrant => exact .steps (responsePartGrant_steps h)
  | returnFrameGrant => exact .steps (returnFrameGrant_steps h)
  | alertGrant =>
    cases h
    split
    · exact .steps (sendAlerts_steps s)
    · exact .steps .refl
  | uplinkFrameDone =>
    cases h
    split
    · exact .reset (afterSoftReset_slot s)
    · exact .steps (steps_of_aside rfl (fun _ => rfl) rfl)
  | trunkFrameSent => exact .steps (trunkFrameSent_steps h)
  | trunkFrameReceived bytes => cases h; exact .steps (steps_foldl _ trunkByte_steps bytes s)
  | trunkGapAbandon => exact .steps (trunkGapAbandon_steps h)
  | replyWindowClose => exact .steps (replyWindowClose_steps h)
  | listenPeriodEnd => exact .steps (listenPeriodEnd_steps h)
  | huntByteReceived b =>
    cases h
    split
    · exact .steps .refl
    · exact .steps (linkByte_steps s b)
  | trunkFrameAbandoned b => exact .steps (trunkFrameAbandoned_steps h)

end Sys2Proof.Machine
end

section
/-!
PROOFS. The slot records keep their form (O58) and stay in agreement with the acting bank's settings (O60): both hold of
every record after a reset, are kept by every act on a record, and are kept by the completion of a switch.
-/

namespace Sys2Proof.Machine

/-! ## The completion of a switch -/

theorem keptWindow_recordOk (old new : Bank) (n : Slot) {v : SlotLive} (ok : RecordOk v) :
    RecordOk (v.keptWindow old new n) := by
  obtain ⟨count, motion, ranges, unknown⟩ := ok
  unfold SlotLive.keptWindow
  split
  · exact ⟨count, ⟨fun faulted => ⟨rfl, (motion.1 faulted).2⟩, motion.2⟩, ranges, fun h => by rw [← unknown h]; rfl⟩
  · exact ⟨count, motion, ranges, fun h => by rw [← unknown h]; rfl⟩

theorem evaluated_recordOk (cfg : SlotCfg) (minute : Word) {v : SlotLive} (known : v.stock ≠ .unknown)
    (ok : RecordOk v) : RecordOk (v.evaluated cfg minute) := by
  obtain ⟨counted, motion, ranges, -⟩ := ok
  have frame := evaluated_frame cfg minute v
  obtain ⟨c, count⟩ := Option.isSome_iff_exists.mp (counted.1.mpr known)
  have evaluated := evaluated_countOk (cfg := cfg) (minute := minute) count counted.2
  have count' : (v.evaluated cfg minute).count = some c := by rw [frame]; exact count
  refine ⟨evaluated, ?_, ?_, .of_known (evaluated.known count')⟩
  · rw [frame]
    exact motion
  · rw [frame]
    exact ranges

theorem keptStock_recordOk (cfg : SlotCfg) (minute : Word) {v : SlotLive} (ok : RecordOk v) :
    RecordOk (v.keptStock cfg minute) := by
  unfold SlotLive.keptStock
  split
  · next evaluates => exact evaluated_recordOk cfg minute (by simp_all) ok
  · exact ok

theorem restarted_recordOk (cfg : SlotCfg) {v : SlotLive} (ok : RecordOk v) : RecordOk (v.restarted cfg) := by
  obtain ⟨count, motion, ⟨range, -, -, -⟩, unknown⟩ := ok
  refine ⟨count, motion, ⟨range, Nat.zero_le _, nofun, le_rfl⟩, fun h => ?_⟩
  have idle : v.count = none := Option.not_isSome_iff_eq_none.mp fun some => count.1.mp some h
  have armed : v.armed = true := by rw [← unknown h, SlotLive.resetForecast_armed]
  unfold SlotLive.restarted SlotLive.resetForecast
  simp [idle, armed]

/-- A kept slot's record keeps its form (R15). -/
theorem keptRecord_recordOk (old new : Bank) (n : Slot) (minute : Word) {v : SlotLive} (ok : RecordOk v) :
    RecordOk (v.keptRecord old new n minute) := by
  have evaluated := keptStock_recordOk (new.cfg n) minute (keptWindow_recordOk old new n ok)
  unfold SlotLive.keptRecord
  dsimp only
  split
  · exact restarted_recordOk _ evaluated
  · exact evaluated

/-- A changed slot's record is in form (R14). -/
theorem changed_recordOk (fault : Option FaultReason) (v : SlotLive) : RecordOk (v.changed fault) :=
  ⟨⟨⟨nofun, fun known => absurd rfl known⟩, .rfl⟩, ⟨fun _ => ⟨rfl, rfl, rfl⟩, nofun⟩,
    ⟨nofun, Nat.zero_le _, nofun, le_rfl⟩, fun _ => rfl⟩

theorem recordOk_reset : RecordOk SlotLive.reset := slotsOk_powered .power 0 [] 0 |> fun h => by
  rw [slot_powered] at h
  exact h

theorem SameButHeld.recordOk {v w : SlotLive} (h : SameButHeld v w) (ok : RecordOk v) : RecordOk w :=
  RecordActs.recordOk (h.acts (cfg := SlotCfg.reset)) ok

/-! ## The form of the records -/

theorem SlotStep.slotsOk {s t : State} (h : SlotStep s t) (ok : SlotsOk s) : SlotsOk t := by
  rw [slotsOk_iff] at ok ⊢
  intro n
  cases h with
  | work h => exact (h.records n).recordOk (ok n)
  | switch target =>
    cases verdict : (s.store.serving.isNone || measurementDiffers s.acting (s.store.bank target) n) with
    | false => exact (completeSwitch_slot_kept verdict).recordOk (keptRecord_recordOk _ _ n _ (ok n))
    | true => exact (completeSwitch_slot_changed verdict).recordOk (changed_recordOk _ _)

theorem SlotSteps.slotsOk {s t : State} (h : SlotSteps s t) (ok : SlotsOk s) : SlotsOk t := by
  induction h with
  | refl => exact ok
  | tail _ step ih => exact step.slotsOk ih

theorem SlotEffect.slotsOk {s t : State} (h : SlotEffect s t) (ok : SlotsOk s) : SlotsOk t := by
  cases h with
  | reset h =>
    intro n
    rw [h]
    exact recordOk_reset
  | aside slots acting =>
    intro n
    have kept : t.slot n = s.slot n := by unfold State.slot; rw [slots]
    rw [kept]
    exact ok n
  | steps h => exact h.slotsOk ok

/-- Settles O58: every change of a record is an act, a completion of a switch or a reset, and each keeps the form. -/
theorem everyStepKeepsTheSlotInvariant : Obligations.EveryStepKeepsTheSlotInvariant := by
  unfold Obligations.EveryStepKeepsTheSlotInvariant
  intro s t ok taken
  unfold step at taken
  split at taken
  · exact (exec_slotEffect taken).slotsOk ok
  · cases taken
    exact ok

/-! ## The agreement with the settings -/

/-- Every slot of both banks has its reorder point at or below its clear point (R4). -/
def Ordered (s : State) : Prop := ∀ id n, ((s.store.bank id).cfg n).reorder.toNat ≤ ((s.store.bank id).cfg n).clear.toNat

theorem StoreOk.ordered {s : State} (h : StoreOk s) : Ordered s := fun id n => by
  obtain ⟨cfgs, -⟩ := h.bank id
  obtain ⟨-, ordered, -⟩ := cfgs n
  exact ordered

theorem Ordered.acting {s : State} (h : Ordered s) (n : Slot) :
    (s.acting.cfg n).reorder.toNat ≤ (s.acting.cfg n).clear.toNat := by
  unfold State.acting
  split
  · exact h _ n
  · rw [cfg_reset]
    exact le_rfl

theorem SlotWork.acting {s t : State} (h : SlotWork s t) : t.acting = s.acting := by
  unfold State.acting
  rw [h.serving]
  split
  · exact h.banks _
  · rfl

theorem SlotStep.ordered {s t : State} (h : SlotStep s t) (ordered : Ordered s) : Ordered t := by
  intro id n
  cases h with
  | work h =>
    rw [h.banks]
    exact ordered id n
  | switch target =>
    rw [(completeSwitch_trunkPath target s).bank]
    exact ordered id n

theorem SameButHeld.agrees {cfg : SlotCfg} {v w : SlotLive} (h : SameButHeld v w) (agrees : RecordAgrees cfg v) :
    RecordAgrees cfg w := by
  obtain ⟨k, rfl⟩ := h.exists_held
  exact agrees

theorem recordAgrees_reset (cfg : SlotCfg) : RecordAgrees cfg SlotLive.reset :=
  ⟨nofun, fun _ => ⟨rfl, rfl, rfl, rfl, rfl⟩⟩

/-- A changed slot is UNKNOWN, and without a fault while disabled (R14). -/
theorem changed_agrees {cfg : SlotCfg} {fault : Option FaultReason} (v : SlotLive)
    (unfaulted : cfg.enabled = false → fault = none) : RecordAgrees cfg (v.changed fault) :=
  ⟨nofun, fun off => ⟨rfl, unfaulted off, rfl, rfl, rfl⟩⟩

theorem keptWindow_dormant (old new : Bank) (n : Slot) {v : SlotLive} (h : v.Dormant) :
    (v.keptWindow old new n).Dormant := by
  obtain ⟨unknown, fault, motion, window, fresh⟩ := h
  unfold SlotLive.keptWindow
  split
  · exact ⟨unknown, fault, motion, rfl, fresh⟩
  · exact ⟨unknown, fault, motion, window, fresh⟩

/-- The stock part of a kept slot agrees with the new bank's settings (R15, R75). -/
theorem keptStock_agrees {cfg : SlotCfg} (ordered : cfg.reorder.toNat ≤ cfg.clear.toNat) (minute : Word)
    {v : SlotLive} (count : CountOk v) (dormant : cfg.enabled = false → v.Dormant) :
    RecordAgrees cfg (v.keptStock cfg minute) := by
  unfold SlotLive.keptStock
  split
  · next evaluates =>
    rw [Bool.and_eq_true] at evaluates
    refine ⟨fun c hc => ?_, fun off => by rw [evaluates.1] at off; cases off⟩
    have frame := evaluated_frame cfg minute v
    have count : v.count = some c := by
      rw [frame] at hc
      exact hc
    rw [evaluated_stock count]
    exact classify_agrees ordered c v.stock
  · next skipped =>
    refine ⟨fun c hc => ?_, dormant⟩
    have known := count.known hc
    have off : cfg.enabled = false := by simpa [known] using skipped
    exact absurd (dormant off).1 known

theorem keptRecord_agrees {old new : Bank} {n : Slot} (ordered : (new.cfg n).reorder.toNat ≤ (new.cfg n).clear.toNat)
    (enabled : (old.cfg n).enabled = (new.cfg n).enabled) (minute : Word) {v : SlotLive} (ok : RecordOk v)
    (agrees : RecordAgrees (old.cfg n) v) : RecordAgrees (new.cfg n) (v.keptRecord old new n minute) := by
  obtain ⟨count, -⟩ := keptWindow_recordOk old new n ok
  have stock := keptStock_agrees ordered minute count fun off =>
    keptWindow_dormant old new n (agrees.2 (enabled.trans off))
  unfold SlotLive.keptRecord
  dsimp only
  split
  · exact stock
  · exact stock

theorem SlotStep.stockOk {s t : State} (h : SlotStep s t) (ordered : Ordered s) (ok : SlotsOk s) (agrees : StockOk s) :
    StockOk t := by
  rw [slotsOk_iff] at ok
  rw [stockOk_iff] at agrees ⊢
  intro n
  cases h with
  | work h =>
    rw [h.acting]
    exact (h.records n).agrees (ordered.acting n) (agrees n)
  | switch target =>
    have acting : (completeSwitch target s).acting = s.store.bank target := by
      rw [← (completeSwitch_trunkPath target s).bank target]
      rfl
    rw [acting]
    cases verdict : (s.store.serving.isNone || measurementDiffers s.acting (s.store.bank target) n) with
    | false =>
      obtain ⟨-, enabled, -⟩ := (kept_iff _ _ _ n).mp verdict
      exact (completeSwitch_slot_kept verdict).agrees
        (keptRecord_agrees (ordered target n) enabled _ (ok n) (agrees n))
    | true =>
      refine (completeSwitch_slot_changed verdict).agrees (changed_agrees _ fun off => ?_)
      unfold changedVerdict
      rw [off]
      rfl

theorem SlotSteps.stockOk {s t : State} (h : SlotSteps s t) (ordered : Ordered s) (ok : SlotsOk s) (agrees : StockOk s) :
    StockOk t := by
  have kept : Ordered t ∧ SlotsOk t ∧ StockOk t := by
    induction h with
    | refl => exact ⟨ordered, ok, agrees⟩
    | tail _ step ih =>
      obtain ⟨ordered, ok, agrees⟩ := ih
      exact ⟨step.ordered ordered, step.slotsOk ok, step.stockOk ordered ok agrees⟩
  exact kept.2.2

theorem SlotEffect.stockOk {s t : State} (h : SlotEffect s t) (ordered : Ordered s) (ok : SlotsOk s)
    (agrees : StockOk s) : StockOk t := by
  cases h with
  | reset h =>
    rw [stockOk_iff]
    intro n
    rw [h]
    exact recordAgrees_reset _
  | aside slots acting =>
    rw [stockOk_iff] at agrees ⊢
    intro n
    have kept : t.slot n = s.slot n := by unfold State.slot; rw [slots]
    rw [kept, acting]
    exact agrees n
  | steps h => exact h.stockOk ordered ok agrees

/-- Settles O60: the acts and the completion of a switch keep the agreement, which needs of the banks their reorder
points in order, and a reset or a table write cannot break it. -/
theorem everyStepKeepsStockStatesInAgreement : Obligations.EveryStepKeepsStockStatesInAgreement := by
  unfold Obligations.EveryStepKeepsStockStatesInAgreement
  intro s t agrees ok store taken
  unfold step at taken
  split at taken
  · exact (exec_slotEffect taken).stockOk (StoreOk.ordered store) ok agrees
  · cases taken
    exact agrees

end Sys2Proof.Machine
end

section
/-!
PROOFS. Conversion and the fault test: rounding of a product to grams (O24), and the onset and the clearing of a fault in
the words of R34 (O25).
-/

namespace Sys2Proof.Machine

/-! ## Grams -/

/-- Rounding half away from zero gives the nearest whole number, an exact half the one farther from 0 (R25). -/
theorem div4096_nearest (p : Int) :
    p - 4096 * div4096 p ≤ 2048 ∧ 4096 * div4096 p - p ≤ 2048
    ∧ (4096 * div4096 p - p = 2048 → 0 ≤ p) ∧ (p - 4096 * div4096 p = 2048 → p ≤ 0) := by
  unfold div4096
  split <;> omega

theorem div4096_neg (p : Int) : div4096 (-p) = -div4096 p := by
  unfold div4096
  split <;> split <;> omega

/-- Settles O24: the quotient is the rounded one, and the clamp is the one of `toGrams`. -/
theorem gramsAreTheNearestWholeNumber : Obligations.GramsAreTheNearestWholeNumber := by
  unfold Obligations.GramsAreTheNearestWholeNumber
  intro m x
  obtain ⟨above, below, halfUp, halfDown⟩ := div4096_nearest ((x.toInt - m.offset.toInt) * m.gain.toNat)
  exact ⟨_, above, below, halfUp, halfDown, rfl, div4096_neg _⟩

/-! ## The fault test -/

/-- Of the part outside the slots, an onset moves the motion list alone before it raises its FAULT. -/
theorem faultSet_frame (b : Bank) (n : Slot) (s : State) : ∃ l p, faultSet b n s = { s with
    slots := (faultSet b n s).slots, trunk := { s.trunk with motionList := l, motionPtr := p } } := by
  unfold faultSet clearMotion
  dsimp only
  split
  · obtain ⟨l, p, left⟩ := leaveMotion_eq b n ((s.modSlot n fun v =>
      { v with fault := some (faultReasonOf b n s), fresh := 0, window := none }).modSlot n fun v =>
      { v with motion := none, motionReported := false })
    rw [left]
    exact ⟨l, p, rfl⟩
  · exact ⟨_, _, rfl⟩

/-- The entry that a FAULT joins the queue as (R35, R124). -/
def faultEntry (b : Bank) (n : Slot) (r : FaultReason) (s : State) : AlertEntry :=
  ⟨⟨.slot n, .fault, r.alertReason, (s.slot n).count, none, none, some (b.cfg n).article, s.now⟩, true⟩

section
variable {b : Bank} {n : Slot} {s : State} (mask : maskHas s.mgmt.mask .fault = false)
  (entry : s.entry (.slot n) = none) (held : (s.slot n).held = none) (room : s.alerts.length < 64)
include mask entry held room

/-- An onset puts its FAULT at the tail of its tier, where the queue has room and nothing of the slot waits. -/
theorem faultOnset_enqueue : faultOnset b n s = (faultSet b n s).enqueue b
    (faultEntry b n (faultReasonOf b n s) s).alert := by
  obtain ⟨l, p, frame⟩ := faultSet_frame b n s
  have own := faultSet_slot b n s
  have now : (faultSet b n s).now = s.now := by rw [frame]; rfl
  have raised : slotAlert b n .fault (faultReasonOf b n s).alertReason ((faultSet b n s).slot n).count none
      (faultSet b n s) = (faultEntry b n (faultReasonOf b n s) s).alert := by
    unfold slotAlert faultEntry
    rw [own, now]
    rfl
  rw [faultOnset_eq, raised]
  refine raiseAlert_enqueue rfl ?_ ?_ ?_ ?_
  · rw [frame]
    exact mask
  · rw [frame]
    exact entry
  · rw [own]
    exact held
  · rw [frame]
    exact room

theorem faultOnset_entry :
    (faultOnset b n s).entry (.slot n) = some (faultEntry b n (faultReasonOf b n s) s) := by
  obtain ⟨l, p, frame⟩ := faultSet_frame b n s
  have queue : (faultSet b n s).alerts = s.alerts := by rw [frame]
  rw [faultOnset_enqueue mask entry held room, entry_eq_entryIn]
  unfold State.enqueue
  rw [State.setAlerts_alerts, queue]
  exact entryIn_joinTail_self (e := faultEntry b n (faultReasonOf b n s) s) rfl entry

/-- The slot of a queued FAULT is not held back. -/
theorem faultOnset_held : ((faultOnset b n s).slot n).held = none := by
  rw [faultOnset_enqueue mask entry held room]
  show ((faultSet b n s).slot n).held = none
  rw [faultSet_slot]
  exact held

end

theorem faultReasonOf_eq (b : Bank) (n : Slot) (s : State) [Decidable (∃ p ∈ b.liveMembers n,
    (s.node (nodeOf p.1)).state = .silent)] : faultReasonOf b n s =
      if ∃ p ∈ b.liveMembers n, (s.node (nodeOf p.1)).state = .silent then FaultReason.nodeSilent else .badSamples := by
  unfold faultReasonOf
  simp only [silentMember_iff]

/-- Settles O25: an unfaulted slot is tested for the onset, a faulted one for the clearing, and the frame of an onset is
that of a visit to the slot. -/
theorem faultTestStartsAndClearsFaults : Obligations.FaultTestStartsAndClearsFaults := by
  unfold Obligations.FaultTestStartsAndClearsFaults
  intro b n s
  have condition := faultCondition_iff b n s
  have clear := clearCondition_iff b n s
  dsimp only
  refine ⟨fun unfaulted onset => ?_, fun unfaulted fine => ?_, fun faulted clears => ?_, fun faulted lasts => ?_⟩
  · rw [faultTest_of_unfaulted unfaulted, if_pos (condition.mpr onset), ← faultReasonOf_eq]
    have visit := faultTest_visit b n s
    rw [faultTest_of_unfaulted unfaulted, if_pos (condition.mpr onset)] at visit
    exact ⟨(faultOnset_slot b n s).eq, visit.others, by rw [visit.frame], by rw [visit.frame],
      fun mask entry held room => faultOnset_entry mask entry held room⟩
  · rw [faultTest_of_unfaulted unfaulted, if_neg (mt condition.mp fine)]
  · rw [faultTest_of_faulted faulted, if_pos (clear.mpr clears)]
    rfl
  · rw [faultTest_of_faulted faulted, if_neg (mt clear.mp lasts)]

end Sys2Proof.Machine
end

section
/-!
PROOFS. The state reads (O53): each answers with the bytes that R173 and R174 list, and nothing but the queue head and
the response in hand moves.
-/

namespace Sys2Proof.Machine

/-! ## The fields of one record -/

theorem windowBytes_none : windowBytes none = List.replicate 15 0 := by decide

theorem windowBytes_some (w : Window) : windowBytes (some w) = [1, 1] ++ beInt 4 w.anchor ++ [1] ++ beInt 4 w.sum
    ++ [1, BitVec.ofNat 8 w.agree, 1, BitVec.ofNat 8 w.count] := by
  unfold windowBytes
  simp [flagByte, optBytes, beBytes]

theorem faultReason_code (r : FaultReason) : r.alertReason.code = if r = .nodeSilent then 4 else 5 := by
  cases r <;> rfl

theorem inspectReason_code (r : InspectReason) :
    r.alertReason.code = if r = .motion then 1 else if r = .ambiguous then 2 else 3 := by
  cases r <;> rfl

theorem flagByte_some {α : Type} (x : α) : flagByte (some x).isSome = 1 := rfl

theorem flagByte_none {α : Type} : flagByte (none : Option α).isSome = 0 := rfl

theorem beInt_absent : beInt 4 ((none : Option Int).getD 0) = [0, 0, 0, 0] := by decide

theorem routeBytes_map (m : ChanMap) : routeBytes m.route m.source false =
    [BitVec.ofNat 8 (m.route.elim 0 (·.val)), BitVec.ofNat 8 (m.route.isSome.toNat + 2 * m.source.code)] := by
  unfold routeBytes
  cases m.route <;> simp

/-- A read that answers OK with what it finds once its request has left the queue. -/
theorem read_answers {s : State} {f : Frame} {src : Source} {code : Byte} {args results : List Byte}
    (h : Taking s f src code args) (k : Source → List Byte → State → Answer)
    (hk : k src args s.dropRequest = { status := .ok, results := results, state := s.dropRequest }) :
    (.next (takeRequest code k s) : Host.Outcome State Fault Refusal) = .next (s.answered f code .ok results) := by
  rw [takeRequest_answer h hk]
  rfl

theorem acting_of_idle {s : State} (h : s.store.serving = none) : s.acting = Bank.reset := by
  unfold State.acting
  rw [h]

theorem chanMap_reset_routeBytes : routeBytes ChanMap.reset.route ChanMap.reset.source false = [0, 0] := by decide

/-- A read of 1 to 8 named records, none of which the queue head is part of. -/
theorem listRead_answers {s : State} {f : Frame} {src : Source} {code : Byte} {args : List Byte}
    (h : Taking s f src code args) (g : State → Fin 256 → List Byte) (same : ∀ n, g s.dropRequest n = g s n) :
    (.next (takeRequest code (fun _ => listRequest g) s) : Host.Outcome State Fault Refusal) = .next (
      if args.length = 0 ∨ 8 < args.length then s.answered f code .badField []
      else s.answered f code .ok (args.flatMap fun a => g s (slotOfByte a))) := by
  split
  · next size =>
    rw [takeRequest_answer h (k := fun _ => listRequest g) (t := s.dropRequest) (if_pos size), respond_dropRequest]
  · next size =>
    refine read_answers h _ ?_
    unfold listRequest
    rw [if_neg size]
    simp only [same]

theorem slotBytes_idle {s : State} (idle : s.store.serving = none) (n : Slot) : (slotBytes s n).take 2 = [0, 0] := by
  unfold slotBytes memberBytes
  dsimp only
  rw [acting_of_idle idle, cfg_reset, members_reset]
  simp only [List.append_assoc, List.cons_append, List.take_succ_cons, List.take_zero]
  rfl

theorem chanBytes_idle {s : State} (idle : s.store.serving = none) (c : Chan) : (chanBytes s c).drop 12 = [0, 0] := by
  unfold chanBytes rawBytes
  dsimp only
  rw [acting_of_idle idle, map_reset, chanMap_reset_routeBytes]
  cases (s.chan c).lastRaw <;> rfl

/-- Settles O53: the model's bytes are those of the rule, field by field, and a read leaves the state as it is. -/
theorem stateReadsReportTheState : Obligations.StateReadsReportTheState := by
  unfold Obligations.StateReadsReportTheState
  refine ⟨?_, ?_⟩
  · intro s f src
    refine ⟨?_, ?_, ?_⟩
    · intro h
      refine read_answers h statusRequest ?_
      unfold statusRequest statusBytes switchResults State.heldCount sessionBytes nodeByte nodeAddress allSessions
      rfl
    · intro h
      refine read_answers h nodesRequest ?_
      unfold nodesRequest NodeRec.toBytes
      rfl
    · intro h
      refine read_answers h countersRequest ?_
      unfold countersRequest Counters.toList
      rfl
  · intro s f src args slotFields chanFields
    have slots : ∀ n, slotFields n = slotBytes s n := by
      intro n
      unfold slotBytes memberBytes
      dsimp only [slotFields]
      generalize s.slot n = v
      cases v.window <;> cases v.lastSettled <;>
        simp only [faultReason_code, inspectReason_code, windowBytes_none, windowBytes_some, flagByte_none, flagByte_some,
          beInt_absent, Option.getD_some, List.append_assoc, List.cons_append, List.nil_append]
    have chans : ∀ c, chanFields c = chanBytes s c := by
      intro c
      unfold chanBytes rawBytes
      dsimp only [chanFields]
      rw [routeBytes_map]
      cases (s.chan c).lastRaw <;> cases (s.chan c).lastGood <;>
        simp only [flagByte_none, flagByte_some, beInt_absent, Option.getD_some, List.append_assoc, List.cons_append,
          List.nil_append]
    refine ⟨fun h => ?_, fun h => ?_, fun idle n => ⟨?_, ?_⟩⟩
    · simp only [slots]
      exact listRead_answers h slotBytes fun _ => rfl
    · simp only [chans]
      exact listRead_answers h chanBytes fun _ => rfl
    · rw [slots]
      exact slotBytes_idle idle n
    · rw [chans]
      exact chanBytes_idle idle n

end Sys2Proof.Machine
end

section
/-!
SUPPORT. A whole frame on the trunk: its bytes are assembled without an event up to the last, which completes it (R159).
-/

namespace Sys2Proof.Machine

/-- The assembler takes a run of bytes without an event and comes to stand at `a'`. -/
def Assembler.Absorbs : Assembler → List RxByte → Assembler → Prop
  | a, [], a' => a = a'
  | a, b :: bs, a' => (a.receive b).2 = .nothing ∧ Assembler.Absorbs (a.receive b).1 bs a'

theorem Assembler.Absorbs.append {a a' a'' : Assembler} {bs cs : List RxByte} (h : a.Absorbs bs a')
    (k : a'.Absorbs cs a'') : a.Absorbs (bs ++ cs) a'' := by
  induction bs generalizing a with
  | nil =>
    obtain rfl : a = a' := h
    exact k
  | cons b bs ih => exact ⟨h.1, ih h.2⟩

theorem trunkByte_of_nothing {s : State} {b : RxByte} (h : (s.trunk.rx.receive b).2 = .nothing) :
    trunkByte s b = s.modTrunk fun t => { t with rx := (s.trunk.rx.receive b).1 } := by
  unfold trunkByte
  dsimp only
  rw [h]
  rfl

theorem foldl_trunkByte_of_absorbs {a' : Assembler} {bs : List RxByte} {s : State} (h : s.trunk.rx.Absorbs bs a') :
    bs.foldl trunkByte s = s.modTrunk fun t => { t with rx := a' } := by
  induction bs generalizing s with
  | nil =>
    obtain rfl : s.trunk.rx = a' := h
    rfl
  | cons b bs ih =>
    obtain ⟨quiet, rest⟩ := h
    rw [List.foldl_cons, trunkByte_of_nothing quiet, ih rest]
    rfl

/-! ## The parts of a frame -/

/-- The preamble, the address byte and the kind byte (R158, R159). -/
theorem absorbs_head {addr : Byte} (plain : addr ≠ 0xD5) (kind : Byte) :
    Assembler.reset.Absorbs (rxBytes [0xD5, 0xD5, 0xD5, 0xD5, addr, kind])
      { Assembler.reset with state := .header, addr := addr, kind := some kind } := by
  have preamble : Assembler.reset.Absorbs (rxBytes [0xD5, 0xD5, 0xD5, 0xD5]) { Assembler.reset with preamble := 4 } :=
    ⟨rfl, rfl, rfl, rfl, rfl⟩
  have address : Assembler.receive { Assembler.reset with preamble := 4 } ⟨addr, true⟩
      = ({ Assembler.reset with state := .header, addr := addr }, .nothing) := by
    unfold Assembler.receive Assembler.hunt preambleByte
    dsimp only [Assembler.reset]
    rw [if_pos rfl, if_neg plain, if_pos rfl]
  refine preamble.append (bs := rxBytes [0xD5, 0xD5, 0xD5, 0xD5]) (cs := rxBytes [addr, kind]) ⟨?_, ?_⟩
  · rw [address]
  · rw [address]
    exact ⟨rfl, rfl⟩

/-- The length byte (R159). -/
theorem absorbs_length {addr kind : Byte} {k : Nat} (h : k ≤ 240) :
    Assembler.Absorbs { Assembler.reset with state := .header, addr := addr, kind := some kind }
      (rxBytes [BitVec.ofNat 8 k])
      { Assembler.reset with
        state := if k = 0 then .check else .body, addr := addr, kind := some kind, length := k } := by
  have value : (BitVec.ofNat 8 k).toNat = k := by
    rw [BitVec.toNat_ofNat]
    omega
  have zero : BitVec.ofNat 8 k = 0 ↔ k = 0 := by
    rw [← BitVec.toNat_inj, value]
    rfl
  refine ⟨?_, ?_⟩
  · simp only [Assembler.receive, Assembler.header, value, Config.maxPayload, if_neg (Nat.not_lt.mpr h), if_true]
  · simp only [List.map_nil, Assembler.Absorbs, Assembler.receive, Assembler.header, value, Config.maxPayload,
      if_neg (Nat.not_lt.mpr h), if_true, zero]

/-- The payload bytes (R159). -/
theorem absorbs_payload {a : Assembler} {bs : List Byte} (state : a.state = if bs = [] then .check else .body)
    (length : a.length = a.payload.length + bs.length) :
    a.Absorbs (rxBytes bs) { a with state := .check, payload := a.payload ++ bs } := by
  induction bs generalizing a with
  | nil =>
    show a = _
    rw [List.append_nil]
    cases a
    cases state
    rfl
  | cons b bs ih =>
    have body : a.state = .body := state
    have taken : a.receive ⟨b, true⟩ = ({ a with
        payload := a.payload ++ [b], state := if bs = [] then .check else .body }, .nothing) := by
      have more : a.payload.length + 1 < a.length ↔ bs ≠ [] := by
        rw [length, List.length_cons, ← List.length_pos_iff]
        omega
      unfold Assembler.receive
      rw [body]
      simp only [Assembler.body, List.length_append, List.length_singleton, more, ite_not, if_true]
    refine ⟨by rw [taken], ?_⟩
    have rest := ih (a := { a with payload := a.payload ++ [b], state := if bs = [] then .check else .body }) rfl
      (by simp [length]; omega)
    rw [taken]
    simp only [List.append_assoc, List.singleton_append] at rest
    exact rest

theorem beNat_beBytes_two (v : BitVec 16) :
    BitVec.ofNat 16 (beNat [BitVec.ofNat 8 (v.toNat / 256), BitVec.ofNat 8 v.toNat]) = v := by
  apply BitVec.eq_of_toNat_eq
  simp only [beNat, List.foldl_cons, List.foldl_nil, BitVec.toNat_ofNat]
  omega

/-- A frame's bytes but the last leave the assembler before its second CRC byte (R159). -/
theorem absorbs_frame {f : Frame} (plain : f.addr ≠ 0xD5) (length : f.payload.length ≤ 240) :
    Assembler.reset.Absorbs
      (rxBytes ([0xD5, 0xD5, 0xD5, 0xD5, f.addr, f.kind] ++ [BitVec.ofNat 8 f.payload.length] ++ f.payload
        ++ [BitVec.ofNat 8 (f.crc.toNat / 256)]))
      ⟨.check, 0, f.addr, some f.kind, f.payload.length, f.payload, some (BitVec.ofNat 8 (f.crc.toNat / 256))⟩ := by
  have payload := absorbs_payload (bs := f.payload) (a := { Assembler.reset with
    state := if f.payload.length = 0 then .check else .body, addr := f.addr, kind := some f.kind
    length := f.payload.length }) (by simp) (by simp [Assembler.reset])
  have crc : Assembler.Absorbs ⟨.check, 0, f.addr, some f.kind, f.payload.length, f.payload, none⟩
      (rxBytes [BitVec.ofNat 8 (f.crc.toNat / 256)])
      ⟨.check, 0, f.addr, some f.kind, f.payload.length, f.payload, some (BitVec.ofNat 8 (f.crc.toNat / 256))⟩ :=
    ⟨rfl, rfl⟩
  unfold rxBytes at *
  rw [List.map_append, List.map_append, List.map_append]
  exact (((absorbs_head plain f.kind).append (absorbs_length length)).append payload).append crc

/-- The bytes of a frame, received while the assembler hunts with no preamble counted, have the effect of the frame
(R159). -/
theorem foldl_trunkByte_wire {f : Frame} {s : State} (hunting : s.trunk.rx = Assembler.reset) (plain : f.addr ≠ 0xD5)
    (length : f.payload.length ≤ 240) : (rxBytes f.wire).foldl trunkByte s = trunkFrame f s := by
  have bytes : rxBytes f.wire = rxBytes ([0xD5, 0xD5, 0xD5, 0xD5, f.addr, f.kind]
      ++ [BitVec.ofNat 8 f.payload.length] ++ f.payload ++ [BitVec.ofNat 8 (f.crc.toNat / 256)])
      ++ [⟨BitVec.ofNat 8 f.crc.toNat, true⟩] := by
    unfold rxBytes Frame.wire crcCovered
    simp [beBytes]
  have taken := absorbs_frame plain length
  rw [← hunting] at taken
  rw [bytes, List.foldl_append, foldl_trunkByte_of_absorbs taken, List.foldl_cons, List.foldl_nil]
  unfold trunkByte
  dsimp only [State.modTrunk_trunk, Assembler.receive, Assembler.check]
  rw [if_pos rfl]
  dsimp only [Option.getD_some]
  rw [beNat_beBytes_two]
  show trunkFrame f (s.modTrunk fun t => { t with rx := Assembler.reset }) = trunkFrame f s
  rw [← hunting]
  rfl

end Sys2Proof.Machine
end

section
/-!
SUPPORT. The end of a poll and the arbiter's next decision: what they leave of nodes and channels in every state, and
what they leave of everything else where no forward waits and no switch is pending (R146 to R148).
-/

namespace Sys2Proof.Machine

/-! ## What a decision leaves of nodes and channels -/

/-- Node records change in their polls counts, channel records in their rezero flags, and the trunk capture stays. -/
structure DecisionFrame (s t : State) : Prop where
  nodes : ∀ m, { s.node m with polls := (t.node m).polls } = t.node m
  chans : ∀ c, { s.chan c with rezero := (t.chan c).rezero } = t.chan c
  capture : t.trunk.capture = s.trunk.capture

theorem DecisionFrame.refl (s : State) : DecisionFrame s s := ⟨fun _ => rfl, fun _ => rfl, rfl⟩

theorem DecisionFrame.trans {s t u : State} (h : DecisionFrame s t) (k : DecisionFrame t u) : DecisionFrame s u where
  nodes m := by
    rw [← k.nodes m, ← h.nodes m]
  chans c := by
    rw [← k.chans c, ← h.chans c]
  capture := k.capture.trans h.capture

theorem DecisionFrame.of_eq {s t : State} (nodes : t.trunk.nodes = s.trunk.nodes) (chans : t.chans = s.chans)
    (capture : t.trunk.capture = s.trunk.capture) : DecisionFrame s t where
  nodes m := by
    unfold State.node
    rw [nodes]
  chans c := by
    unfold State.chan
    rw [chans]
  capture := capture

theorem startPoll_decisionFrame (node : Node) (m : Bool) (s : State) : DecisionFrame s (startPoll node m s) where
  nodes k := by
    show { s.node k with polls := ((s.modNode node fun r => { r with polls := r.polls + 1 }).node k).polls }
      = (s.modNode node fun r => { r with polls := r.polls + 1 }).node k
    by_cases here : k = node
    · subst here
      rw [State.node_modNode_self]
    · rw [State.node_modNode_ne _ here]
  chans _ := rfl
  capture := rfl

theorem modChan_decisionFrame (c : Chan) (x : Bool) (s : State) :
    DecisionFrame s (s.modChan c fun r => { r with rezero := x }) where
  nodes _ := rfl
  chans k := by
    by_cases here : k = c
    · subst here
      rw [State.chan_modChan_self]
    · rw [State.chan_modChan_ne _ here]
  capture := rfl

theorem DecisionFrame.foldl {α : Type} (f : State → α → State) (h : ∀ s x, DecisionFrame s (f s x)) (xs : List α)
    (s : State) : DecisionFrame s (xs.foldl f s) := by
  induction xs generalizing s with
  | nil => exact .refl s
  | cons x xs ih => exact (h s x).trans (ih _)

theorem startForward_decisionFrame (f : Frame) (rest : List Frame) (s : State) :
    DecisionFrame s (startForward f rest s) := by
  unfold startForward
  dsimp only
  refine DecisionFrame.trans (t := match rezeroOf s.acting f with | some z => zeroSend z s | none => s) ?_
    (.of_eq rfl rfl rfl)
  split
  · exact (DecisionFrame.foldl _ (fun s c => modChan_decisionFrame c true s) _ s).trans
      (DecisionFrame.foldl (fun s n => s.modSlot n fun v => { v with fresh := 0, window := none })
        (fun _ _ => .of_eq rfl rfl rfl) _ _)
  · exact .refl s

theorem completeSwitch_decisionFrame (target : BankId) (s : State) : DecisionFrame s (completeSwitch target s) := by
  have frame := completeSlots_frame target s
  rw [completeSwitch_eq]
  exact .of_eq rfl (by show (completeSlots target s).chans = s.chans; rw [frame]) rfl

theorem advanceRoster_decisionFrame (s : State) : DecisionFrame s (advanceRoster s).1 := by
  unfold advanceRoster
  split
  · exact .of_eq rfl rfl rfl
  · have turned : DecisionFrame s (s.modTrunk fun t => { t with rosterPtr := 0 }) := .of_eq rfl rfl rfl
    dsimp only
    split
    · exact turned.trans (completeSwitch_decisionFrame _ _)
    · exact .of_eq rfl rfl rfl

theorem decisionFrame_decides : Decides DecisionFrame where
  refl := .refl
  trans := .trans
  poll node m s := startPoll_decisionFrame node m s
  forward f rest s _ := startForward_decisionFrame f rest s
  advance := advanceRoster_decisionFrame
  mark _ := .of_eq rfl rfl rfl

theorem endPoll_decisionFrame (m : Bool) (s : State) : DecisionFrame s (endPoll m s) := by
  have ended : DecisionFrame s s.endTxn := .of_eq rfl rfl rfl
  unfold endPoll
  dsimp only
  split
  · exact ended.trans (decisionFrame_decides.arbitrate _)
  · have counted : DecisionFrame s.endTxn
        (s.endTxn.modTrunk fun t => { t with interleave := satInc 15 t.interleave }) := .of_eq rfl rfl rfl
    exact ((ended.trans counted).trans (advanceRoster_decisionFrame _)).trans (decisionFrame_decides.arbitrate _)

/-! ## A decision with no forward waiting and no switch pending -/

/-- Where no forward waits and no switch is pending, the trunk alone moves. -/
def TrunkAlone (s t : State) : Prop :=
  s.store.requested = none → s.trunk.forwards = [] → t = { s with trunk := t.trunk } ∧ t.trunk.forwards = []

theorem TrunkAlone.trans {s t u : State} (h : TrunkAlone s t) (k : TrunkAlone t u) : TrunkAlone s u := by
  intro idle empty
  obtain ⟨first, none⟩ := h idle empty
  obtain ⟨second, none⟩ := k (by rw [first]; exact idle) none
  refine ⟨?_, none⟩
  rw [first] at second
  exact second

theorem trunkAlone_of_eq {s t : State} (h : t = { s with trunk := t.trunk }) (forwards : t.trunk.forwards = s.trunk.forwards) :
    TrunkAlone s t := fun _ empty => ⟨h, forwards.trans empty⟩

theorem advanceRoster_trunkAlone (s : State) : TrunkAlone s (advanceRoster s).1 := by
  intro idle empty
  obtain ⟨p, moved⟩ := advanceRoster_of_no_switch idle
  rw [moved]
  exact ⟨rfl, empty⟩

theorem trunkAlone_decides : Decides TrunkAlone where
  refl s := trunkAlone_of_eq rfl rfl
  trans := .trans
  poll _ _ _ := trunkAlone_of_eq rfl rfl
  forward f rest s head := fun _ empty => by
    rw [empty] at head
    cases head
  advance := advanceRoster_trunkAlone
  mark _ := trunkAlone_of_eq rfl rfl

theorem endPoll_trunkAlone (m : Bool) (s : State) : TrunkAlone s (endPoll m s) := by
  have ended : TrunkAlone s s.endTxn := trunkAlone_of_eq rfl rfl
  unfold endPoll
  dsimp only
  split
  · exact ended.trans (trunkAlone_decides.arbitrate _)
  · have counted : TrunkAlone s.endTxn
        (s.endTxn.modTrunk fun t => { t with interleave := satInc 15 t.interleave }) := trunkAlone_of_eq rfl rfl
    exact ((ended.trans counted).trans (advanceRoster_trunkAlone _)).trans (trunkAlone_decides.arbitrate _)

/-! ## The end of a poll -/

/-- What the handling of a reply or a miss leaves of the trunk and the table store. -/
structure Handled (s v : State) : Prop where
  store : v.store = s.store
  trunk : v.trunk = { s.trunk with
    nodes := v.trunk.nodes, rx := v.trunk.rx, capture := v.trunk.capture, motionList := v.trunk.motionList
    motionPtr := v.trunk.motionPtr }

theorem advanceRoster_interleave (s : State) : (advanceRoster s).1.trunk.interleave = s.trunk.interleave := by
  unfold advanceRoster
  split
  · rfl
  · dsimp only
    split
    · rw [completeSwitch_trunk]
      rfl
    · rfl

/-- The roster turn sets the pointer to 0, with or without a switch to complete (R148). -/
theorem advanceRoster_turn_ptr {s : State} (h : ¬ s.trunk.rosterPtr + 1 < s.acting.length) :
    (advanceRoster s).1.trunk.rosterPtr = 0 := by
  unfold advanceRoster
  rw [if_neg h]
  dsimp only
  split
  · rw [completeSwitch_trunk]
  · rfl

theorem endPoll_pollEnded {s v : State} (h : Handled s v) (m : Bool) : PollEnded m s (endPoll m v) := by
  have trunk := h.trunk
  have ended : v.endTxn.trunk = { s.trunk with
      txn := none, nodes := v.endTxn.trunk.nodes, rx := v.endTxn.trunk.rx, capture := v.endTxn.trunk.capture
      motionList := v.endTxn.trunk.motionList, motionPtr := v.endTxn.trunk.motionPtr } := by
    show { v.trunk with txn := none } = _
    rw [trunk]
    rfl
  have acting : v.acting = s.acting := by
    unfold State.acting
    rw [h.store]
  have ptr : v.trunk.rosterPtr = s.trunk.rosterPtr := by rw [trunk]
  have interleave : v.trunk.interleave = s.trunk.interleave := by rw [trunk]
  cases m with
  | true => exact ⟨v.endTxn, v.endTxn, rfl, h.store, ended, fun _ => rfl, nofun⟩
  | false =>
    refine ⟨v.endTxn, _, rfl, h.store, ended, nofun, fun _ => ⟨?_, ?_, fun inside => ?_, fun last => ?_⟩⟩
    · rw [← interleave]
      rfl
    · rw [advanceRoster_interleave, ← interleave]
      rfl
    · rw [← ptr, ← acting] at inside
      rw [← ptr]
      exact congrArg (fun r => r.1.trunk.rosterPtr) (advanceRoster_step (s := { v.endTxn with
        trunk := { v.endTxn.trunk with interleave := satInc 15 v.trunk.interleave } }) inside)
    · rw [← ptr, ← acting] at last
      exact advanceRoster_turn_ptr (not_lt.mpr last.ge)

end Sys2Proof.Machine
end

section
/-!
SUPPORT. An accepted sample reply, part by part: the members of a slot on a node, the eight readings of a payload, the
fresh mask, and the record of a slot after its reply by the branches of R31.
-/

namespace Sys2Proof.Machine

/-! ## Channels and members -/

theorem nodeOf_chanOf (node : Node) (k : Fin 8) : nodeOf (chanOf node k) = node := by
  apply Fin.ext
  show (node.val * 8 + k.val) / 8 = node.val
  omega

theorem chanOf_val_mod (node : Node) (k : Fin 8) : (chanOf node k).val % 8 = k.val := by
  show (node.val * 8 + k.val) % 8 = k.val
  omega

theorem chanOf_injective (node : Node) : Function.Injective (chanOf node) := fun k k' same => by
  apply Fin.ext
  rw [← chanOf_val_mod node k, same, chanOf_val_mod]

/-- A channel of a node is one of the eight. -/
theorem chanOf_of_nodeOf {c : Chan} {node : Node} (h : nodeOf c = node) :
    chanOf node ⟨c.val % 8, Nat.mod_lt _ (by decide)⟩ = c := by
  subst h
  apply Fin.ext
  show c.val / 8 * 8 + c.val % 8 = c.val
  omega

theorem mem_members_iff {b : Bank} {n : Slot} {p : Chan × ChanMap} :
    p ∈ b.members n ↔ p.2 = b.map p.1 ∧ (b.map p.1).route = some n := by
  rw [members_eq]
  obtain ⟨c, m⟩ := p
  simp only [List.mem_map, List.mem_filter, Prod.mk.injEq, decide_eq_true_eq]
  constructor
  · rintro ⟨c', ⟨-, routed⟩, rfl, rfl⟩
    exact ⟨rfl, routed⟩
  · rintro ⟨rfl, routed⟩
    exact ⟨c, ⟨List.mem_finRange c, routed⟩, rfl, rfl⟩

theorem mem_liveMembers_iff {b : Bank} {n : Slot} {p : Chan × ChanMap} :
    p ∈ b.liveMembers n ↔ p ∈ b.members n ∧ p.2.source = .live := by
  unfold Bank.liveMembers
  rw [List.mem_filter, decide_eq_true_eq]

theorem liveOn_iff {b : Bank} {node : Node} {n : Slot} : b.liveOn node n = true ↔ b.carriesLive n node := by
  unfold Bank.liveOn Bank.carriesLive
  simp only [List.any_eq_true, Bool.and_eq_true, decide_eq_true_eq]
  constructor
  · rintro ⟨k, -, routed, live⟩
    exact ⟨(chanOf node k, b.map (chanOf node k)),
      mem_liveMembers_iff.mpr ⟨mem_members_iff.mpr ⟨rfl, routed⟩, live⟩, nodeOf_chanOf node k⟩
  · rintro ⟨p, member, on⟩
    obtain ⟨member, live⟩ := mem_liveMembers_iff.mp member
    obtain ⟨record, routed⟩ := mem_members_iff.mp member
    rw [record] at live
    rw [← chanOf_of_nodeOf on] at routed live
    exact ⟨_, List.mem_finRange _, routed, live⟩

theorem mem_slotsOn_iff {b : Bank} {node : Node} {n : Slot} :
    n ∈ b.slotsOn node ↔ (b.cfg n).enabled = true ∧ b.carriesLive n node := by
  unfold Bank.slotsOn
  rw [List.mem_filter, Bool.and_eq_true, liveOn_iff]
  exact and_iff_right (mem_allSlots n)

theorem slotsOn_nodup (b : Bank) (node : Node) : (b.slotsOn node).Nodup := allSlots_nodup.filter _

/-! ## The eight readings -/

/-- Reading `k` of a SAMPLE payload (R188). -/
def readingAt (payload : List Byte) (k : Nat) : Reading :=
  ⟨.ofByte (byteAt payload (4 * k)), BitVec.ofNat 24 (fieldAt payload (4 * k + 1) 3)⟩

theorem parseReadings_eq {m : Nat} {payload : List Byte} (length : payload.length = 4 * m) :
    parseReadings payload = (List.range m).map (readingAt payload) := by
  induction m generalizing payload with
  | zero =>
    obtain rfl := List.eq_nil_of_length_eq_zero length
    rfl
  | succ m ih =>
    match payload, length with
    | st :: x :: y :: z :: rest, length =>
      have tail : rest.length = 4 * m := by
        simp only [List.length_cons] at length
        omega
      have shift : ∀ k, readingAt (st :: x :: y :: z :: rest) (k + 1) = readingAt rest k := fun k => by
        unfold readingAt byteAt fieldAt
        rw [show 4 * (k + 1) = 4 * k + 4 from rfl]
        rfl
      rw [List.range_succ_eq_map, List.map_cons, List.map_map]
      show _ :: parseReadings rest = _
      rw [ih tail]
      refine congrArg₂ List.cons rfl (List.map_congr_left fun k _ => ?_)
      exact (shift k).symm

/-- The readings of a node's reply with their channels (R23). -/
theorem readings_zip {payload : List Byte} (length : payload.length = 32) (node : Node) :
    (nodeChans node).zip (parseReadings payload)
      = (List.finRange 8).map fun k => (chanOf node k, readingAt payload k.val) := by
  have range : List.range 8 = (List.finRange 8).map Fin.val := (List.map_coe_finRange_eq_range).symm
  rw [parseReadings_eq (m := 8) length, range, List.map_map]
  exact List.zip_map'

section
variable (b : Bank)

/-- Each channel that a list of readings names once keeps its reading, and is read by Table R24; any other stays. -/
theorem readings_chan {xs : List (Chan × Reading)} (once : (xs.map Prod.fst).Nodup) (acc : State × List Chan) :
    (∀ p ∈ xs, (xs.foldl (takeReading b) acc).1.chan p.1 = (acc.1.chan p.1).read (b.map p.1) p.2)
    ∧ (∀ c, c ∉ xs.map Prod.fst → (xs.foldl (takeReading b) acc).1.chan c = acc.1.chan c) := by
  induction xs generalizing acc with
  | nil => exact ⟨nofun, fun _ _ => rfl⟩
  | cons x xs ih =>
    rw [List.map_cons, List.nodup_cons] at once
    obtain ⟨read, kept⟩ := ih once.2 (takeReading b acc x)
    refine ⟨fun p hp => ?_, fun c hc => ?_⟩
    · obtain rfl | later := List.mem_cons.mp hp
      · rw [List.foldl_cons, kept _ once.1]
        exact State.chan_modChan_self _ _ _
      · have apart : p.1 ≠ x.1 := fun e => once.1 (e ▸ List.mem_map_of_mem later)
        rw [List.foldl_cons, read p later]
        exact congrArg (fun r => ChanRec.read r (b.map p.1) p.2) (State.chan_modChan_ne _ apart _)
    · rw [List.map_cons, List.mem_cons, not_or] at hc
      rw [List.foldl_cons, kept c hc.2]
      exact State.chan_modChan_ne _ hc.1 _

/-- The converted channels: LIVE and routed, with no rezero in flight, and with an OK reading (R24). -/
theorem readings_converted {xs : List (Chan × Reading)} (once : (xs.map Prod.fst).Nodup) (acc : State × List Chan)
    (c : Chan) : c ∈ (xs.foldl (takeReading b) acc).2 ↔ c ∈ acc.2 ∨ ∃ x : Reading, (c, x) ∈ xs
      ∧ converts (b.map c) (acc.1.chan c) = true ∧ x.status = .ok := by
  induction xs generalizing acc with
  | nil => simp
  | cons y xs ih =>
    rw [List.map_cons, List.nodup_cons] at once
    rw [List.foldl_cons, ih once.2]
    have others : ∀ x, (c, x) ∈ xs → (takeReading b acc y).1.chan c = acc.1.chan c := fun x hx =>
      State.chan_modChan_ne _ (fun e : c = y.1 => once.1 (e ▸ List.mem_map_of_mem (f := Prod.fst) hx)) _
    have taken : c ∈ (takeReading b acc y).2 ↔ c ∈ acc.2
        ∨ (c = y.1 ∧ converts (b.map c) (acc.1.chan c) = true ∧ y.2.status = .ok) := by
      unfold takeReading
      dsimp only
      split
      · next converts =>
        rw [Bool.and_eq_true, decide_eq_true_eq] at converts
        rw [List.mem_append, List.mem_singleton]
        exact or_congr_right ⟨fun e => ⟨e, e ▸ converts⟩, And.left⟩
      · next rejects =>
        rw [Bool.and_eq_true, decide_eq_true_eq] at rejects
        exact (or_iff_left fun ⟨e, converts⟩ => rejects (e ▸ converts)).symm
    rw [taken, or_assoc]
    refine or_congr_right ⟨?_, ?_⟩
    · rintro (⟨rfl, converts, ok⟩ | ⟨x, later, converts, ok⟩)
      · exact ⟨y.2, List.mem_cons_self .., converts, ok⟩
      · rw [others x later] at converts
        exact ⟨x, List.mem_cons_of_mem _ later, converts, ok⟩
    · rintro ⟨x, named, converts, ok⟩
      obtain rfl | later := List.mem_cons.mp named
      · exact .inl ⟨rfl, converts, ok⟩
      · rw [← others x later] at converts
        exact .inr ⟨x, later, converts, ok⟩

end

/-! ## The fresh mask -/

theorem foldl_setBit_getLsbD {α : Type} (P : α × Nat → Prop) [DecidablePred P] (xs : List (α × Nat)) (mask : BitVec 4)
    {i : Nat} (h : i < 4) :
    (xs.foldl (fun m p => if P p then m ||| (1#4 <<< p.2) else m) mask).getLsbD i = true
      ↔ mask.getLsbD i = true ∨ ∃ p ∈ xs, P p ∧ p.2 = i := by
  induction xs generalizing mask with
  | nil => simp
  | cons x xs ih =>
    rw [List.foldl_cons, ih]
    have bit : (1#4 <<< x.2).getLsbD i = true ↔ x.2 = i := by
      rw [BitVec.getLsbD_shiftLeft, BitVec.getLsbD_one]
      simp only [h, decide_true, Bool.true_and, Bool.and_eq_true, Bool.not_eq_true', decide_eq_false_iff_not,
        decide_eq_true_eq, Nat.zero_lt_succ]
      omega
    split
    · next set =>
      rw [BitVec.getLsbD_or, Bool.or_eq_true, bit, or_assoc]
      simp only [List.mem_cons, exists_eq_or_imp, set, true_and]
    · next skipped =>
      simp only [List.mem_cons, exists_eq_or_imp, skipped, false_and, false_or]

theorem setFresh_getLsbD (ms : List (Chan × ChanMap)) (converted : List Chan) (mask : BitVec 4) {i : Nat} (h : i < 4) :
    (setFresh ms converted mask).getLsbD i = true
      ↔ mask.getLsbD i = true ∨ ∃ p, ms[i]? = some p ∧ p.2.source = .live ∧ p.1 ∈ converted := by
  unfold setFresh
  rw [foldl_setBit_getLsbD (fun p : (Chan × ChanMap) × Nat => p.1.2.source = .live ∧ p.1.1 ∈ converted) _ _ h]
  refine or_congr_right ⟨?_, ?_⟩
  · rintro ⟨⟨p, j⟩, place, set, rfl⟩
    exact ⟨p, List.mem_zipIdx_iff_getElem?.mp place, set⟩
  · rintro ⟨p, place, set⟩
    exact ⟨(p, i), List.mem_zipIdx_iff_getElem?.mpr place, set, rfl⟩

theorem freshComplete_iff (ms : List (Chan × ChanMap)) (mask : BitVec 4) : freshComplete ms mask = true
    ↔ ∀ i p, ms[i]? = some p → p.2.source = .live → mask.getLsbD i = true := by
  unfold freshComplete
  simp only [List.all_eq_true, Bool.or_eq_true, decide_eq_true_eq, ne_eq, Prod.forall, List.mem_zipIdx_iff_getElem?,
    ← imp_iff_not_or]
  exact ⟨fun h i c m => h c m i, fun h c m i => h i c m⟩

end Sys2Proof.Machine
end

section
/-!
SUPPORT. The record of a slot after an accepted reply, by the branches of R31: the fault test alone, the mask alone, or a
slot sample for the settle window.
-/

namespace Sys2Proof.Machine

section
variable {b : Bank} {n : Slot} {s : State} {old : SlotLive} (before : SameButHeld old (s.slot n)) {cs : List Chan}
include before

/-! ## A reply without a sample -/

/-- The reply to a faulted slot is its fault test (R31). -/
theorem slotReply_of_faulted (faulted : old.fault.isSome = true) : slotReply b cs n s = faultTest b n s := by
  rw [← before.fault] at faulted
  unfold slotReply
  dsimp only
  rw [faulted]
  rfl

theorem slotReply_clears (faulted : old.fault.isSome = true) (clear : clearCondition b n s = true) :
    SameButHeld { old with fault := none, fresh := 0 } ((slotReply b cs n s).slot n) := by
  rw [slotReply_of_faulted before faulted, faultTest_of_faulted (by rw [before.fault]; exact faulted), if_pos clear,
    faultClear_slot]
  exact congrArg (fun v : SlotLive => { v with fault := none, fresh := 0 }) before

theorem slotReply_lasts (faulted : old.fault.isSome = true) (lasts : ¬ clearCondition b n s = true) :
    SameButHeld old ((slotReply b cs n s).slot n) := by
  rw [slotReply_of_faulted before faulted, faultTest_of_faulted (by rw [before.fault]; exact faulted), if_neg lasts]
  exact before

variable (unfaulted : old.fault = none)
include unfaulted

theorem slotReply_faults (onset : faultCondition b n s = true) :
    SameButHeld (old.faulted (faultReasonOf b n s)) ((slotReply b cs n s).slot n) := by
  have tested : faultTest b n s = faultOnset b n s := by
    rw [faultTest_of_unfaulted (before.fault.trans unfaulted), if_pos onset]
  have written : SameButHeld (old.faulted (faultReasonOf b n s)) ((faultOnset b n s).slot n) := by
    obtain ⟨k, same⟩ := before.exists_held
    have own := faultOnset_slot b n s
    rw [same] at own
    exact own
  unfold slotReply
  dsimp only
  rw [tested, if_pos]
  · exact written
  · rw [written.fault, Bool.or_eq_true]
    exact .inr rfl

variable (fine : ¬ faultCondition b n s = true)
include fine

/-- The reply to a slot that stays unfaulted sets the mask and, once that is complete, takes a sample (R30, R31). -/
theorem slotReply_of_fine : slotReply b cs n s =
    if freshComplete (b.members n) (setFresh (b.members n) cs old.fresh) = true then
      takeSample b n (slotSample b n s) (s.modSlot n fun v => { v with fresh := 0 })
    else s.modSlot n fun v => { v with fresh := setFresh (b.members n) cs old.fresh } := by
  have none : (s.slot n).fault = none := before.fault.trans unfaulted
  have tested : faultTest b n s = s := by rw [faultTest_of_unfaulted none, if_neg fine]
  unfold slotReply
  dsimp only
  rw [tested, none, before.fresh, if_neg (by decide)]

theorem slotReply_waits (incomplete : ¬ freshComplete (b.members n) (setFresh (b.members n) cs old.fresh) = true) :
    SameButHeld { old with fresh := setFresh (b.members n) cs old.fresh } ((slotReply b cs n s).slot n) := by
  rw [slotReply_of_fine before unfaulted fine, if_neg incomplete, State.slot_modSlot_self]
  exact congrArg (fun v : SlotLive => { v with fresh := setFresh (b.members n) cs old.fresh }) before

end

/-! ## A sample -/

/-- The settle window of a record after a sample (R41, R42). -/
def SlotLive.windowWith (v : SlotLive) (cfg : SlotCfg) (x : Int) : Window := Window.take v.window cfg.band.toNat x

/-- The close tests after a sample (R43). -/
def SlotLive.verdictWith (v : SlotLive) (cfg : SlotCfg) (x : Int) : Verdict :=
  (v.windowWith cfg x).verdict cfg.width.toNat cfg.threshold.toNat

/-- A settled close ends motion, stores its weight and counts it (R45, R49, R61). -/
theorem settledClose_slot (b : Bank) (n : Slot) (g : Int) (s : State) :
    let w := (settledClose b n g s).slot n
    w.fresh = (s.slot n).fresh ∧ w.window = none ∧ w.motion = none ∧ w.motionReported = false
    ∧ w.lastSettled = some g ∧ w.fault = (s.slot n).fault
    ∧ w.count = if accepted (b.cfg n) g then some (countOf (b.cfg n) g) else (s.slot n).count := by
  dsimp only
  rw [settledClose_eq]
  have rest := restState_slot b n g s
  unfold counting
  split
  · have counted := acceptedCount_slot b n (countOf (b.cfg n) g) (restState b n g s)
    rw [rest] at counted
    obtain ⟨fault, fresh, window, motion, reported, settled, count⟩ := counted.frame
    exact ⟨fresh, window, motion, reported, settled, fault, count⟩
  · obtain ⟨k, i, written⟩ := ambiguousCount_slot b n (restState b n g s)
    rw [rest] at written
    exact ⟨written.fresh, written.window, written.motion, written.motionReported, written.lastSettled, written.fault,
      written.count⟩

section
variable {b : Bank} {n : Slot} {s : State} {old : SlotLive} (before : SameButHeld old (s.slot n)) {x : Int}
include before

theorem takeSample_of_stays (verdict : old.verdictWith (b.cfg n) x = .stays) :
    takeSample b n x s = s.modSlot n fun v => { v with window := some (old.windowWith (b.cfg n) x) } := by
  unfold SlotLive.verdictWith SlotLive.windowWith at verdict
  unfold SlotLive.windowWith
  simp only [takeSample, before.window, verdict]

theorem takeSample_of_unsettled (verdict : old.verdictWith (b.cfg n) x = .unsettled) :
    takeSample b n x s = unsettledClose b n s := by
  unfold SlotLive.verdictWith SlotLive.windowWith at verdict
  simp only [takeSample, before.window, verdict]

theorem takeSample_of_settled (verdict : old.verdictWith (b.cfg n) x = .settled) :
    takeSample b n x s = settledClose b n (old.windowWith (b.cfg n) x).settledWeight s := by
  unfold SlotLive.verdictWith SlotLive.windowWith at verdict
  unfold SlotLive.windowWith
  simp only [takeSample, before.window, verdict]

theorem takeSample_stays (verdict : old.verdictWith (b.cfg n) x = .stays) :
    SameButHeld { old with window := some (old.windowWith (b.cfg n) x) } ((takeSample b n x s).slot n) := by
  rw [takeSample_of_stays before verdict, State.slot_modSlot_self]
  exact congrArg (fun v : SlotLive => { v with window := some (old.windowWith (b.cfg n) x) }) before

theorem takeSample_unsettled (verdict : old.verdictWith (b.cfg n) x = .unsettled) :
    let w := (takeSample b n x s).slot n
    SameButHeld { old with
      window := none, motion := some (old.motion.getD s.now)
      motionReported := w.motionReported, inspection := w.inspection } w := by
  dsimp only
  rw [takeSample_of_unsettled before verdict]
  obtain ⟨r, i, written⟩ := unsettledClose_slot b n s
  obtain ⟨k, same⟩ := before.exists_held
  rw [same] at written
  rw [written.motionReported, written.inspection]
  exact written

theorem takeSample_settled (verdict : old.verdictWith (b.cfg n) x = .settled) :
    let w := (takeSample b n x s).slot n
    let g := (old.windowWith (b.cfg n) x).settledWeight
    w.fresh = old.fresh ∧ w.window = none ∧ w.motion = none ∧ w.motionReported = false
    ∧ w.lastSettled = some g ∧ w.fault = old.fault
    ∧ w.count = if accepted (b.cfg n) g then some (countOf (b.cfg n) g) else old.count := by
  dsimp only
  rw [takeSample_of_settled before verdict, ← before.fresh, ← before.fault, ← before.count]
  exact settledClose_slot b n _ s

end

end Sys2Proof.Machine
end

section
/-!
PROOFS. An accepted SAMPLE (O17): its node, its channels, its slots and the end of its poll.
-/

namespace Sys2Proof.Machine

/-! ## Frames in a reply window -/

theorem frame_node_iff {f : Frame} {node : Node} : f.node = some node ↔ f.station = node.val + 1 := by
  unfold Frame.node nodeOfAddress
  split
  · rw [Option.some.injEq, Fin.ext_iff]
    dsimp only
    omega
  · simp only [reduceCtorEq, false_iff]
    omega

/-- A SAMPLE of the polled node, whole and toward the aisle (R143). -/
def Frame.sampleOf (f : Frame) (node : Node) : Prop :=
  f.crcOk = true ∧ f.payload.length = 32 ∧ f.station = node.val + 1 ∧ f.towardAisle = true ∧ f.kindCode = 2

theorem judge_eq (node : Node) (tag : BitVec 4) (f : Frame) [Decidable (f.sampleOf node)] : judge node tag f =
    if f.sampleOf node then (if f.tag = tag then .accepted else .stale) else .bad := by
  unfold judge
  refine if_congr ?_ rfl rfl
  simp only [Bool.and_eq_true, decide_eq_true_eq, frame_node_iff]
  exact ⟨fun ⟨⟨⟨⟨crc, node⟩, aisle⟩, kind⟩, length⟩ => ⟨crc, length, node, aisle, kind⟩,
    fun ⟨crc, length, node, aisle, kind⟩ => ⟨⟨⟨⟨crc, node⟩, aisle⟩, kind⟩, length⟩⟩

/-- A whole frame received in an open reply window, the assembler hunting before it (R143, R144). -/
theorem exec_frame_of_window {s : State} {f p : Frame} {k : TxnKind} {timeout : Nat} (hunting : s.trunk.rx = Assembler.reset)
    (window : s.trunk.txn = some ⟨k, p, false, timeout⟩) (plain : f.addr ≠ 0xD5) (length : f.payload.length ≤ 240) :
    exec (.trunkFrameReceived (rxBytes f.wire)) s = .next (windowFrame ⟨k, p, false, timeout⟩ f s) := by
  show Host.Outcome.next ((rxBytes f.wire).foldl trunkByte s) = _
  rw [foldl_trunkByte_wire hunting plain length]
  unfold trunkFrame
  rw [window]
  rfl

theorem status_ofByte_ok {x : Byte} : ReadStatus.ofByte x = .ok ↔ x = 0 := by
  rw [← BitVec.toNat_inj]
  unfold ReadStatus.ofByte
  rcases x.toNat with _ | _ | _ | k <;> simp

/-! ## The handling of a sample -/

section
variable (node : Node) (payload : List Byte) (s : State)

theorem handleSample_slotPath : SlotPath (readingsTaken s.acting node payload s).1 (handleSample node payload s) :=
  SlotPath.foldl _ (fun u n => slotReply_slotPath _ _ n u) _ _

theorem handleSample_frame : ∃ l p, (handleSample node payload s).trunk = { s.trunk with motionList := l, motionPtr := p }
    ∧ (handleSample node payload s).store = s.store := by
  have path := handleSample_slotPath node payload s
  have read := readings_eq s.acting ((nodeChans node).zip (parseReadings payload)) (s, [])
  have trunk : (readingsTaken s.acting node payload s).1.trunk = s.trunk := (congrArg State.trunk read :)
  have store : (readingsTaken s.acting node payload s).1.store = s.store := (congrArg State.store read :)
  have after : (handleSample node payload s).trunk = { (readingsTaken s.acting node payload s).1.trunk with
      motionList := (handleSample node payload s).trunk.motionList
      motionPtr := (handleSample node payload s).trunk.motionPtr } := (congrArg State.trunk path :)
  exact ⟨_, _, by rw [after, trunk], path.store.trans store⟩

theorem handleSample_chan (c : Chan) :
    (handleSample node payload s).chan c = (readingsTaken s.acting node payload s).1.chan c :=
  SlotPath.chan (handleSample_slotPath node payload s) c

variable {payload} (length : payload.length = 32)
include length

theorem readings_once : (((nodeChans node).zip (parseReadings payload)).map Prod.fst).Nodup := by
  rw [readings_zip length, List.map_map]
  exact (List.nodup_finRange 8).map (chanOf_injective node)

/-- A channel of the node is read by Table R24 (R23). -/
theorem handleSample_chan_own (k : Fin 8) : (handleSample node payload s).chan (chanOf node k)
    = (s.chan (chanOf node k)).read (s.acting.map (chanOf node k)) (readingAt payload k.val) := by
  rw [handleSample_chan]
  refine (readings_chan s.acting (readings_once node length) (s, [])).1 (chanOf node k, readingAt payload k.val) ?_
  rw [readings_zip length]
  exact List.mem_map_of_mem (List.mem_finRange k)

theorem handleSample_chan_other {c : Chan} (other : nodeOf c ≠ node) : (handleSample node payload s).chan c = s.chan c := by
  rw [handleSample_chan]
  refine (readings_chan s.acting (readings_once node length) (s, [])).2 c fun named => other ?_
  rw [readings_zip length, List.map_map] at named
  obtain ⟨k, -, rfl⟩ := List.mem_map.mp named
  exact nodeOf_chanOf node k

/-- A LIVE member of a slot is converted by the reply exactly when it is on the node, its status byte is OK and no rezero is
in flight (R24, R31). -/
theorem mem_converted_iff {n : Slot} {p : Chan × ChanMap} (member : p ∈ s.acting.members n)
    (live : p.2.source = .live) : p.1 ∈ (readingsTaken s.acting node payload s).2
      ↔ nodeOf p.1 = node ∧ byteAt payload (4 * (p.1.val % 8)) = 0 ∧ (s.chan p.1).rezero = false := by
  obtain ⟨record, routed⟩ := mem_members_iff.mp member
  rw [record] at live
  unfold readingsTaken
  rw [readings_converted s.acting (readings_once node length) (s, []), readings_zip length]
  have converts : converts (s.acting.map p.1) (s.chan p.1) = true ↔ (s.chan p.1).rezero = false := by
    unfold converts
    simp [routed, live]
  simp only [converts, List.not_mem_nil, false_or, List.mem_map, List.mem_finRange, true_and, Prod.mk.injEq]
  constructor
  · rintro ⟨x, ⟨k, same, rfl⟩, free, ok⟩
    rw [← same, nodeOf_chanOf, chanOf_val_mod]
    rw [← same] at free
    exact ⟨rfl, status_ofByte_ok.mp ok, free⟩
  · rintro ⟨own, ok, free⟩
    exact ⟨_, ⟨_, chanOf_of_nodeOf own, rfl⟩, free, status_ofByte_ok.mpr ok⟩

end

/-! ## The slots of an accepted sample -/

theorem sampled_slot_other {node : Node} {payload : List Byte} {s : State} {n : Slot}
    (other : (s.acting.cfg n).enabled = false ∨ ¬ s.acting.carriesLive n node) :
    SameButHeld (s.slot n) ((handleSample node payload s).slot n) := by
  have read := readings_eq s.acting ((nodeChans node).zip (parseReadings payload)) (s, [])
  have slots : (readingsTaken s.acting node payload s).1.slots = s.slots := (congrArg State.slots read :)
  have start : (readingsTaken s.acting node payload s).1.slot n = s.slot n := by
    unfold State.slot
    rw [slots]
  have absent : n ∉ s.acting.slotsOn node := by
    rw [mem_slotsOn_iff, not_and_or, Bool.not_eq_true]
    exact other
  have kept := foldl_slotVisits_not_mem _ (fun u m => slotReply_slotVisit s.acting
    (readingsTaken s.acting node payload s).2 m u) absent (readingsTaken s.acting node payload s).1
  rw [start] at kept
  exact kept

/-- Each enabled slot with a LIVE member on the node has its turn, which finds the node records, the channels as read and
the slot's record as it was. -/
theorem sampled_slot_own {node : Node} {payload : List Byte} {s : State} {n : Slot}
    (enabled : (s.acting.cfg n).enabled = true) (own : s.acting.carriesLive n node) :
    ∃ u, (∀ m, u.node m = s.node m) ∧ (∀ c, u.chan c = (handleSample node payload s).chan c) ∧ u.now = s.now
      ∧ SameButHeld (s.slot n) (u.slot n)
      ∧ SameButHeld ((slotReply s.acting (readingsTaken s.acting node payload s).2 n u).slot n)
        ((handleSample node payload s).slot n) := by
  have read := readings_eq s.acting ((nodeChans node).zip (parseReadings payload)) (s, [])
  have slots : (readingsTaken s.acting node payload s).1.slots = s.slots := (congrArg State.slots read :)
  have trunk : (readingsTaken s.acting node payload s).1.trunk = s.trunk := (congrArg State.trunk read :)
  have time : (readingsTaken s.acting node payload s).1.time = s.time := (congrArg State.time read :)
  obtain ⟨u, path, before, after⟩ := foldl_slotVisits_mem _ (fun u m => slotReply_slotVisit s.acting
    (readingsTaken s.acting node payload s).2 m u) (slotsOn_nodup s.acting node) (mem_slotsOn_iff.mpr ⟨enabled, own⟩)
    (readingsTaken s.acting node payload s).1
  refine ⟨u, fun m => ?_, fun c => ?_, ?_, ?_, after⟩
  · rw [SlotPath.node path]
    unfold State.node
    rw [trunk]
  · rw [SlotPath.chan path, handleSample_chan]
  · rw [SlotPath.now path]
    unfold State.now
    rw [time]
  · unfold State.slot at before ⊢
    rw [slots] at before
    exact before

/-- The mask is complete after the reply exactly when every LIVE member's position is set, at most four members (R30). -/
theorem complete_of_setFresh {ms : List (Chan × ChanMap)} {cs : List Chan} {mask : BitVec 4}
    (complete : freshComplete ms (setFresh ms cs mask) = true) {i : Nat} {p : Chan × ChanMap} (place : ms[i]? = some p)
    (live : p.2.source = .live) :
    mask.getLsbD i = true ∨ ∃ p, ms[i]? = some p ∧ p.2.source = .live ∧ p.1 ∈ cs := by
  have set := (freshComplete_iff _ _).mp complete i p place live
  exact (setFresh_getLsbD ms cs mask (BitVec.lt_of_getLsbD set)).mp set

theorem setFresh_complete {ms : List (Chan × ChanMap)} {cs : List Chan} {mask : BitVec 4} (few : ms.length ≤ 4)
    (set : ∀ i p, ms[i]? = some p → p.2.source = .live →
      mask.getLsbD i = true ∨ ∃ p, ms[i]? = some p ∧ p.2.source = .live ∧ p.1 ∈ cs) :
    freshComplete ms (setFresh ms cs mask) = true :=
  (freshComplete_iff _ _).mpr fun i p place live =>
    (setFresh_getLsbD ms cs mask ((List.getElem?_eq_some_iff.mp place).1.trans_le few)).mpr (set i p place live)

theorem slotSample_eq (b : Bank) (n : Slot) (s : State) : slotSample b n s =
    ((b.members n).map fun p => if p.2.source = .zero then 0 else (s.chan p.1).lastGood.getD 0).sum := by
  unfold slotSample contribution
  refine congrArg List.sum (List.map_congr_left fun p _ => ?_)
  cases p.2.source <;> rfl

/-! ## The node of an accepted sample -/

/-- The answering node becomes ALIVE with a miss streak of 0 (R139). -/
def State.nodeAlive (s : State) (node : Node) : State := s.modNode node fun r => { r with state := .alive, streak := 0 }

section
variable (s : State) (node : Node)

theorem pollAccepted_eq (motion : Bool) (payload : List Byte) : pollAccepted node motion payload s
    = endPoll motion (handleSample node payload (s.nodeAlive node)) := rfl

@[simp] theorem State.nodeAlive_acting : (s.nodeAlive node).acting = s.acting := rfl

@[simp] theorem State.nodeAlive_slot (n : Slot) : (s.nodeAlive node).slot n = s.slot n := rfl

@[simp] theorem State.nodeAlive_now : (s.nodeAlive node).now = s.now := rfl

theorem State.nodeAlive_node_self : (s.nodeAlive node).node node = { s.node node with state := .alive, streak := 0 } :=
  State.node_modNode_self _ _ _

theorem handled_sample (payload : List Byte) : Handled s (handleSample node payload (s.nodeAlive node)) := by
  obtain ⟨l, q, trunk, store⟩ := handleSample_frame node payload (s.nodeAlive node)
  exact ⟨store, by rw [trunk]; rfl⟩

theorem handleSample_node (payload : List Byte) (m : Node) : (handleSample node payload s).node m = s.node m := by
  obtain ⟨l, q, trunk, -⟩ := handleSample_frame node payload s
  unfold State.node
  rw [trunk]

end

/-- A SAMPLE with the poll's tag, received in its window, is accepted (R143). -/
theorem exec_accepted_sample {s : State} {f p : Frame} {node : Node} {motion : Bool} {timeout : Nat}
    (hunting : s.trunk.rx = Assembler.reset) (window : s.trunk.txn = some ⟨.poll node f.tag motion, p, false, timeout⟩)
    (sample : f.sampleOf node) (plain : f.addr ≠ 0xD5) : exec (.trunkFrameReceived (rxBytes f.wire)) s
      = .next (endPoll motion (handleSample node f.payload (s.nodeAlive node))) := by
  classical
  have length : f.payload.length = 32 := by
    obtain ⟨-, length, -⟩ := sample
    exact length
  rw [← pollAccepted_eq, exec_frame_of_window hunting window plain (by rw [length]; decide)]
  unfold windowFrame
  dsimp only
  rw [judge_eq, if_pos sample, if_pos rfl]

/-- What the next decision leaves of slots and channels where no forward waits and no switch is pending. -/
theorem endPoll_quiet {m : Bool} {s : State} (idle : s.store.requested = none) (empty : s.trunk.forwards = []) :
    (∀ n, (endPoll m s).slot n = s.slot n) ∧ ∀ c, (endPoll m s).chan c = s.chan c := by
  obtain ⟨same, -⟩ := endPoll_trunkAlone m s idle empty
  rw [same]
  exact ⟨fun _ => rfl, fun _ => rfl⟩

/-- A channel record after a reading, by Table R24. -/
theorem ChanRec.read_table (r : ChanRec) (m : ChanMap) (x : Reading) :
    (r.read m x).lastRaw = some x
    ∧ if m.route.isSome = true ∧ m.source = .live ∧ r.rezero = false then
        (if x.status = .ok then (r.read m x).lastGood = some (toGrams m x.count) ∧ (r.read m x).badStreak = 0
          else (r.read m x).lastGood = r.lastGood ∧ (r.read m x).badStreak = min 3 (r.badStreak + 1))
      else (r.read m x).lastGood = r.lastGood ∧ (r.read m x).badStreak = r.badStreak := by
  have converts : converts m { r with lastRaw := some x } = true
      ↔ m.route.isSome = true ∧ m.source = .live ∧ r.rezero = false := by
    unfold Machine.converts
    simp only [Bool.and_eq_true, decide_eq_true_eq, Bool.not_eq_true', and_assoc]
  unfold ChanRec.read
  dsimp only
  by_cases own : m.route.isSome = true ∧ m.source = .live ∧ r.rezero = false
  · rw [if_pos own, if_pos (converts.mpr own)]
    split
    · exact ⟨rfl, rfl, rfl⟩
    · exact ⟨rfl, rfl, rfl⟩
  · rw [if_neg own, if_neg (mt converts.mp own)]
    exact ⟨rfl, rfl, rfl⟩

/-- Settles O17: the reply is handled before the poll ends, the end of the poll leaves of nodes and channels what O17 reads,
and each slot's record is followed through its one turn. -/
theorem acceptedSampleUpdatesNodeAndChannels : Obligations.AcceptedSampleUpdatesNodeAndChannels := by
  unfold Obligations.AcceptedSampleUpdatesNodeAndChannels
  intro s f node motion p timeout hunting window crc length station aisle kind plain
  have taken := exec_accepted_sample hunting window ⟨crc, length, station, aisle, kind⟩ plain
  obtain ⟨nodeFrame, chanFrame, -⟩ := endPoll_decisionFrame motion (handleSample node f.payload (s.nodeAlive node))
  have polled := nodeFrame node
  rw [handleSample_node, State.nodeAlive_node_self] at polled
  refine ⟨_, taken, endPoll_pollEnded (handled_sample s node f.payload) motion, ?_, ?_, ?_, ?_, fun c other => ?_,
    fun k c here x hx => ?_, fun empty idle => ?_⟩
  · rw [← polled]
  · rw [← polled]
  · rw [← polled]
  · rw [← polled]
  · have kept := chanFrame c
    rw [handleSample_chan_other node _ length other] at kept
    exact kept
  · have read := chanFrame c
    subst here hx
    rw [handleSample_chan_own node _ length] at read
    rw [← read]
    exact ChanRec.read_table _ _ _
  · obtain ⟨slots, chans⟩ := endPoll_quiet (m := motion) (s := handleSample node f.payload (s.nodeAlive node))
      (by rw [(handled_sample s node f.payload).store]; exact idle)
      (by rw [(handled_sample s node f.payload).trunk]; exact empty)
    dsimp only
    refine ⟨fun n other => ?_, fun n enabled own => ?_⟩
    · rw [slots]
      exact sampled_slot_other (s := s.nodeAlive node) other
    · obtain ⟨u, nodes, read, now, before, after⟩ := sampled_slot_own (s := s.nodeAlive node) (payload := f.payload)
        enabled own
      rw [State.nodeAlive_slot] at before
      rw [State.nodeAlive_acting] at after
      have states : ∀ m, ((endPoll motion (handleSample node f.payload (s.nodeAlive node))).node m).state
          = (u.node m).state := fun m => by
        rw [← nodeFrame m, handleSample_node, nodes]
      have final : ∀ c, (endPoll motion (handleSample node f.payload (s.nodeAlive node))).chan c = u.chan c := fun c => by
        rw [chans, read]
      have position : ∀ i, (∃ p : Chan × ChanMap, (s.acting.members n)[i]? = some p ∧ p.2.source = .live
            ∧ p.1 ∈ (readingsTaken s.acting node f.payload (s.nodeAlive node)).2)
          ↔ ∃ p : Chan × ChanMap, (s.acting.members n)[i]? = some p ∧ p.2.source = .live
            ∧ nodeOf p.1 = node ∧ byteAt f.payload (4 * (p.1.val % 8)) = 0 ∧ (s.chan p.1).rezero = false :=
        fun i => exists_congr fun p => and_congr_right fun place => and_congr_right fun live =>
          mem_converted_iff node (s.nodeAlive node) length (List.mem_of_getElem? place) live
      simp only [states, final, slots]
      rw [State.nodeAlive_now] at now
      have onset := faultCondition_iff s.acting n u
      have clear := clearCondition_iff s.acting n u
      generalize (readingsTaken s.acting node f.payload (s.nodeAlive node)).2 = cs at after position
      simp only [← position]
      refine ⟨fun faulted clears => ?_, fun faulted lasts => ?_, fun unfaulted faults => ?_,
        fun unfaulted fine => ⟨fun waits => ?_, fun complete few => ?_⟩⟩
      · exact (slotReply_clears before faulted (clear.mpr clears)).trans after
      · exact (slotReply_lasts before faulted (mt clear.mp lasts)).trans after
      · have written := slotReply_faults before (cs := cs) unfaulted (onset.mpr faults)
        rw [faultReasonOf_eq] at written
        exact written.trans after
      · have written := (slotReply_waits before unfaulted (mt onset.mp fine) (cs := cs) fun complete =>
          waits fun i p place live => complete_of_setFresh complete place live).trans after
        rw [written.fresh]
        exact ⟨written, fun i hi => setFresh_getLsbD _ cs _ hi⟩
      · have sampled := slotReply_of_fine before unfaulted (mt onset.mp fine) (cs := cs)
        rw [if_pos (setFresh_complete few complete), slotSample_eq] at sampled
        rw [sampled] at after
        have empty : SameButHeld { s.slot n with fresh := 0 } ((u.modSlot n fun v => { v with fresh := 0 }).slot n) := by
          rw [State.slot_modSlot_self]
          exact congrArg (fun v : SlotLive => { v with fresh := 0 }) before
        refine ⟨fun verdict => ?_, fun verdict => ?_, fun verdict => ?_⟩
        · exact (takeSample_stays empty verdict).trans after
        · have written := takeSample_unsettled empty verdict
          rw [after.motionReported, after.inspection]
          rw [← now]
          exact written.trans after
        · obtain ⟨fresh, none, still, reported, settled, fault, count⟩ := takeSample_settled empty verdict
          rw [after.fresh, after.window, after.motion, after.motionReported, after.lastSettled, after.fault, after.count]
          exact ⟨fresh, none, still, reported, settled, fault.trans unfaulted, count⟩

end Sys2Proof.Machine
end

section
/-!
PROOFS. A missed poll (O18): the four ways a poll misses, the counts, the change to SILENT with its fault tests, and the
end of the poll.
-/

namespace Sys2Proof.Machine

/-! ## The miss, before the poll ends -/

/-- The third miss in a row of a node that is not SILENT already (R140). -/
def State.loses (s : State) (node : Node) : Bool := 2 ≤ (s.node node).streak && (s.node node).state ≠ .silent

/-- The counts and the state of the node after a miss (R140). -/
def State.nodeMissed (s : State) (node : Node) : State := s.modNode node fun r =>
  { r with misses := r.misses + 1, streak := min 3 (r.streak + 1), state := if s.loses node then .silent else r.state }

/-- The state in which a missed poll ends (R38, R140, R155). -/
def missHandled (node : Node) (s : State) : State :=
  if s.loses node then nodeSilent s.acting node ((s.nodeMissed node).nodeLoss node) else s.nodeMissed node

section
variable (s : State) (node : Node)

theorem State.loses_iff : s.loses node = true ↔ 2 ≤ (s.node node).streak ∧ (s.node node).state ≠ .silent := by
  unfold State.loses
  rw [Bool.and_eq_true, decide_eq_true_eq, decide_eq_true_eq]

theorem pollMissed_eq (motion : Bool) : pollMissed node motion s = endPoll motion (missHandled node s) := by
  have lost : (min 3 ((s.node node).streak + 1) = 3 ∧ (s.node node).state ≠ .silent) ↔ s.loses node = true := by
    rw [State.loses_iff]
    exact and_congr_left fun _ => by omega
  unfold pollMissed missHandled State.nodeMissed
  simp only [lost]
  rfl

theorem State.nodeMissed_node_self : (s.nodeMissed node).node node = { s.node node with
    misses := (s.node node).misses + 1, streak := min 3 ((s.node node).streak + 1)
    state := if s.loses node then .silent else (s.node node).state } := State.node_modNode_self _ _ _

theorem State.nodeMissed_node_ne {m : Node} (h : m ≠ node) : (s.nodeMissed node).node m = s.node m :=
  State.node_modNode_ne _ h _

/-- What a miss leaves of the state: nodes and capture aside, the slot path. -/
theorem missHandled_frame : ∃ u, SlotPath u (missHandled node s) ∧ u.slots = s.slots ∧ u.store = s.store ∧ u.chans = s.chans
    ∧ u.trunk = { s.trunk with nodes := (s.nodeMissed node).trunk.nodes, capture := u.trunk.capture }
    ∧ u.trunk.capture = if s.loses node then ((s.nodeMissed node).nodeLoss node).trunk.capture else s.trunk.capture := by
  unfold missHandled
  split
  · exact ⟨_, nodeSilent_slotPath _ node _, rfl, rfl, rfl, rfl, rfl⟩
  · exact ⟨_, .refl _, rfl, rfl, rfl, rfl, rfl⟩

theorem missHandled_node (m : Node) : (missHandled node s).node m = (s.nodeMissed node).node m := by
  obtain ⟨u, path, -, -, -, trunk, -⟩ := missHandled_frame s node
  rw [SlotPath.node path]
  unfold State.node
  rw [trunk]

theorem missHandled_chans : (missHandled node s).chans = s.chans := by
  obtain ⟨u, path, -, -, chans, -⟩ := missHandled_frame s node
  rw [path.chans, chans]

theorem handled_miss : Handled s (missHandled node s) := by
  obtain ⟨u, path, -, store, -, trunk, -⟩ := missHandled_frame s node
  have after : (missHandled node s).trunk = { u.trunk with
      motionList := (missHandled node s).trunk.motionList
      motionPtr := (missHandled node s).trunk.motionPtr } := (congrArg State.trunk path :)
  refine ⟨path.store.trans store, ?_⟩
  rw [after, trunk]

/-- A change to SILENT is recorded in an empty trunk capture, or counted in a full one (R155). -/
theorem missHandled_capture : (missHandled node s).trunk.capture =
    if s.loses node then ((s.nodeMissed node).nodeLoss node).trunk.capture else s.trunk.capture := by
  obtain ⟨u, path, -, -, -, -, capture⟩ := missHandled_frame s node
  have after : (missHandled node s).trunk.capture = u.trunk.capture :=
    (congrArg (fun t : State => t.trunk.capture) path :)
  rw [after, capture]

end

/-! ## The four ways a poll misses -/

section
variable {s : State} {node : Node} {tag : BitVec 4} {motion : Bool} {p : Frame} {timeout : Nat}
  (window : s.trunk.txn = some ⟨.poll node tag motion, p, false, timeout⟩)
include window

/-- A frame abandoned in the window is a miss, the assembler back in HUNT (R142, R143). -/
theorem trunkAbandon_of_window (a : Assembler) : trunkAbandon (s.modTrunk fun t => { t with rx := a })
    = pollMissed node motion (s.modTrunk fun t => { t with rx := a }) := by
  unfold trunkAbandon
  rw [State.modTrunk_trunk, window]

theorem exec_close_of_window : ∃ a, exec .replyWindowClose s
    = .next (pollMissed node motion (s.modTrunk fun t => { t with rx := a })) := by
  refine ⟨if s.trunk.rx.inFrame then Assembler.reset else s.trunk.rx, ?_⟩
  show execReplyWindowClose s = _
  unfold execReplyWindowClose
  rw [window]
  rfl

theorem exec_gap_of_window (inFrame : s.trunk.rx.state ≠ .hunt) : exec .trunkGapAbandon s
    = .next (pollMissed node motion (s.modTrunk fun t => { t with rx := Assembler.reset })) := by
  show execTrunkGapAbandon s = _
  unfold execTrunkGapAbandon Assembler.inFrame
  dsimp only
  rw [if_pos (decide_eq_true inFrame), trunkAbandon_of_window window]

theorem exec_byte_of_window {d : RxByte} {e : RxEvent} (abandons : e = .overLength ∨ e = .framingInFrame)
    (receive : s.trunk.rx.receive d = (Assembler.reset, e)) : exec (.trunkFrameAbandoned d) s
      = .next (pollMissed node motion (s.modTrunk fun t => { t with rx := Assembler.reset })) := by
  have taken : trunkByte s d = pollMissed node motion (s.modTrunk fun t => { t with rx := Assembler.reset }) := by
    rw [← trunkAbandon_of_window window]
    unfold trunkByte
    rw [receive]
    obtain rfl | rfl := abandons <;> rfl
  show execTrunkFrameAbandoned d s = _
  unfold execTrunkFrameAbandoned
  rw [receive, taken]
  obtain rfl | rfl := abandons <;> rfl

theorem exec_bad_of_window {f : Frame} (hunting : s.trunk.rx = Assembler.reset) (plain : f.addr ≠ 0xD5)
    (length : f.payload.length ≤ 240) (bad : ¬ f.sampleOf node) : exec (.trunkFrameReceived (rxBytes f.wire)) s
      = .next (pollMissed node motion (s.modTrunk fun t => { t with rx := s.trunk.rx })) := by
  classical
  rw [exec_frame_of_window hunting window plain length]
  unfold windowFrame
  dsimp only
  rw [judge_eq, if_neg bad]
  rfl

end

/-- A length byte above 240 abandons the frame (R160). -/
theorem receive_over_length {a : Assembler} {d : Byte} (state : a.state = .header) (kind : a.kind.isSome = true)
    (long : 240 < d.toNat) : a.receive ⟨d, true⟩ = (Assembler.reset, .overLength) := by
  obtain ⟨k, kind⟩ := Option.isSome_iff_exists.mp kind
  unfold Assembler.receive
  rw [state]
  dsimp only
  rw [if_pos rfl]
  unfold Assembler.header
  rw [kind]
  exact if_pos long

/-! ## The fault tests at a change to SILENT -/

section
variable {b : Bank} {node : Node} {n : Slot} {s : State} (silent : (s.node node).state = .silent)
  (own : b.carriesLive n node)
include silent own

theorem silent_onset : faultCondition b n s = true := by
  obtain ⟨p, member, here⟩ := own
  exact (faultCondition_iff b n s).mpr (.inl ⟨p, member, by rw [here]; exact silent⟩)

theorem silent_reason : faultReasonOf b n s = .nodeSilent := by
  obtain ⟨p, member, here⟩ := own
  unfold faultReasonOf
  rw [if_pos ((silentMember_iff b n s).mpr ⟨p, member, by rw [here]; exact silent⟩)]

/-- An unfaulted slot of the node becomes faulted with NODE_SILENT (R35, R38). -/
theorem silent_faultTest (unfaulted : (s.slot n).fault = none) : faultTest b n s = faultOnset b n s := by
  rw [faultTest_of_unfaulted unfaulted, if_pos (silent_onset silent own)]

/-- A faulted slot of the node stays as it is. -/
theorem silent_faultTest_faulted (faulted : (s.slot n).fault.isSome = true) : faultTest b n s = s := by
  rw [faultTest_of_faulted faulted, if_neg fun clear => ?_]
  obtain ⟨p, member, here⟩ := own
  have alive := ((clearCondition_iff b n s).mp clear p member).1
  rw [here, silent] at alive
  cases alive

end

/-- The slots of a list grow the queue by one FAULT at most for each that is not faulted. -/
theorem faultTests_length_le {b : Bank} {node : Node} {ns : List Slot} (once : ns.Nodup)
    (own : ∀ n ∈ ns, b.carriesLive n node) {s : State} (silent : (s.node node).state = .silent) :
    (ns.foldl (fun s n => faultTest b n s) s).alerts.length
      ≤ s.alerts.length + ns.countP fun n => (s.slot n).fault.isNone := by
  induction ns generalizing s with
  | nil => exact le_rfl
  | cons n ns ih =>
    rw [List.nodup_cons] at once
    have visit := faultTest_visit b n s
    have here := own n (List.mem_cons_self ..)
    have others : ns.countP (fun m => ((faultTest b n s).slot m).fault.isNone)
        = ns.countP fun m => (s.slot m).fault.isNone :=
      List.countP_congr fun m hm => by rw [(visit.others m fun e => once.1 (e ▸ hm)).fault]
    have silent' : ((faultTest b n s).node node).state = .silent := by rw [visit.frame.node]; exact silent
    have rest := ih once.2 (fun m hm => own m (List.mem_cons_of_mem _ hm)) silent'
    rw [others] at rest
    have turn : (faultTest b n s).alerts.length
        ≤ s.alerts.length + if (s.slot n).fault.isNone = true then 1 else 0 := by
      cases fault : (s.slot n).fault with
      | none =>
        obtain ⟨l, q, frame⟩ := faultSet_frame b n s
        have queue : (faultSet b n s).alerts = s.alerts := by rw [frame]
        rw [silent_faultTest silent here fault, faultOnset_eq]
        refine (raiseAlert_length_le b _ _).trans ?_
        rw [queue]
        exact le_rfl
      | some r =>
        rw [silent_faultTest_faulted silent here (by rw [fault]; rfl)]
        exact Nat.le_add_right _ _
    rw [List.foldl_cons, List.countP_cons]
    omega

/-- An enabled, unfaulted slot with a LIVE member on the node. -/
def silencedBy (b : Bank) (node : Node) (s : State) (n : Slot) : Bool :=
  (b.cfg n).enabled && (s.slot n).fault.isNone && (b.liveMembers n).any fun p => nodeOf p.1 = node

theorem silencedBy_iff {b : Bank} {node : Node} {s : State} {n : Slot} : silencedBy b node s n = true
    ↔ n ∈ b.slotsOn node ∧ (s.slot n).fault = none := by
  unfold silencedBy
  rw [mem_slotsOn_iff, Bool.and_eq_true, Bool.and_eq_true, Option.isNone_iff_eq_none, and_right_comm]
  refine and_congr_left fun _ => and_congr_right fun _ => ?_
  unfold Bank.carriesLive
  simp only [List.any_eq_true, decide_eq_true_eq]

theorem countP_silencedBy (b : Bank) (node : Node) (s : State) :
    (b.slotsOn node).countP (fun n => (s.slot n).fault.isNone) = allSlots.countP (silencedBy b node s) := by
  unfold Bank.slotsOn
  rw [List.countP_filter]
  refine List.countP_congr fun n _ => ?_
  rw [silencedBy_iff, mem_slotsOn_iff, ← liveOn_iff, Bool.and_eq_true, Bool.and_eq_true, Option.isNone_iff_eq_none,
    and_comm]

section
variable {b : Bank} {node : Node} {n : Slot} {s : State}

/-- A slot that is not hit by the change to SILENT keeps its record. -/
theorem nodeSilent_slot_kept (silent : (s.node node).state = .silent) (spared : ¬ silencedBy b node s n = true) :
    SameButHeld (s.slot n) ((nodeSilent b node s).slot n) := by
  by_cases member : n ∈ b.slotsOn node
  · obtain ⟨u, path, before, after⟩ := foldl_slotVisits_mem _ (fun s m => (faultTest_visit b m s).slotVisit)
      (slotsOn_nodup b node) member s
    have faulted : (u.slot n).fault.isSome = true := by
      rw [before.fault, Option.isSome_iff_ne_none]
      exact fun none => spared (silencedBy_iff.mpr ⟨member, none⟩)
    rw [silent_faultTest_faulted (by rw [SlotPath.node path]; exact silent) (mem_slotsOn_iff.mp member).2 faulted] at after
    exact before.trans after
  · exact foldl_slotVisits_not_mem _ (fun s m => (faultTest_visit b m s).slotVisit) member s

/-- A slot that is hit becomes faulted with NODE_SILENT (R35, R38). -/
theorem nodeSilent_slot_hit (silent : (s.node node).state = .silent) (hit : silencedBy b node s n = true) :
    SameButHeld ((s.slot n).faulted .nodeSilent) ((nodeSilent b node s).slot n) := by
  obtain ⟨member, none⟩ := silencedBy_iff.mp hit
  obtain ⟨u, path, before, after⟩ := foldl_slotVisits_mem _ (fun s m => (faultTest_visit b m s).slotVisit)
    (slotsOn_nodup b node) member s
  have silent' : (u.node node).state = .silent := by rw [SlotPath.node path]; exact silent
  have own := (mem_slotsOn_iff.mp member).2
  have written := faultOnset_slot b n u
  obtain ⟨k, same⟩ := before.exists_held
  rw [silent_reason silent' own, same] at written
  rw [silent_faultTest silent' own (before.fault.trans none)] at after
  exact SameButHeld.trans (u := (s.slot n).faulted .nodeSilent) written after

/-- A slot that is hit gets its FAULT queued, where the queue has room for all and holds nothing of the slot (R38). -/
theorem nodeSilent_queues (silent : (s.node node).state = .silent) (hit : silencedBy b node s n = true)
    (mask : maskHas s.mgmt.mask .fault = false) (entry : s.entry (.slot n) = none) (held : (s.slot n).held = none)
    (room : s.alerts.length + allSlots.countP (silencedBy b node s) ≤ 64) :
    (nodeSilent b node s).entry (.slot n) = some (faultEntry b n .nodeSilent s) := by
  obtain ⟨member, none⟩ := silencedBy_iff.mp hit
  have acts := fun (u : State) (m : Slot) => faultTest_acts b m u
  have visits := fun (u : State) (m : Slot) => faultTest_visit b m u
  have own : ∀ m ∈ b.slotsOn node, b.carriesLive m node := fun m hm => (mem_slotsOn_iff.mp hm).2
  have once := slotsOn_nodup b node
  obtain ⟨l, r, split⟩ := List.append_of_mem member
  rw [← countP_silencedBy, split, List.countP_append, List.countP_cons_of_pos (by rw [none]; rfl)] at room
  rw [split] at once own
  obtain ⟨left, right, apart⟩ := List.nodup_append.mp once
  have before : n ∉ l := fun h => apart n h n (List.mem_cons_self ..) rfl
  have after : n ∉ r := (List.nodup_cons.mp right).1
  have grown := faultTests_length_le left (fun m hm => own m (List.mem_append_left _ hm)) silent
  unfold nodeSilent
  rw [split, List.foldl_append, List.foldl_cons]
  have ahead := foldl_beside _ b acts before s
  have same := foldl_visits_not_mem _ visits before s
  have frame := foldl_visitFrame _ visits l s
  generalize l.foldl (fun s n => faultTest b n s) s = u at grown ahead same frame ⊢
  obtain ⟨empty, free⟩ := ahead.of_not_held held
  have silent' : (u.node node).state = .silent := by rw [frame.node]; exact silent
  have own' := own n (List.mem_append_right _ (List.mem_cons_self ..))
  rw [← frame.mask] at mask
  rw [silent_faultTest silent' own' (same.fault.trans none)]
  have queued := faultOnset_entry (b := b) mask (empty.trans entry) free (by omega)
  have kept := faultOnset_held (b := b) mask (empty.trans entry) free (by omega)
  rw [((foldl_beside _ b acts after (faultOnset b n u)).of_not_held kept).1, queued, silent_reason silent' own']
  unfold faultEntry
  rw [same.count, frame.now]

end

/-! ## The missed poll -/

/-- Each way a poll misses ends it as a miss, the assembler aside (R140, R142, R143). -/
theorem exec_missed {s : State} {node : Node} {tag : BitVec 4} {motion : Bool} {p : Frame} {timeout : Nat} {c : Instr}
    (window : s.trunk.txn = some ⟨.poll node tag motion, p, false, timeout⟩)
    (cause : c = .replyWindowClose
      ∨ (s.trunk.rx.state ≠ .hunt ∧ (c = .trunkGapAbandon ∨ ∃ d, c = .trunkFrameAbandoned ⟨d, false⟩))
      ∨ (s.trunk.rx.state = .header ∧ s.trunk.rx.kind.isSome = true
        ∧ ∃ d : Byte, 240 < d.toNat ∧ c = .trunkFrameAbandoned ⟨d, true⟩)
      ∨ ∃ f : Frame, c = .trunkFrameReceived (rxBytes f.wire) ∧ s.trunk.rx = Assembler.reset ∧ f.addr ≠ 0xD5
        ∧ f.payload.length ≤ 240 ∧ ¬ f.sampleOf node) :
    ∃ a, exec c s = .next (endPoll motion (missHandled node (s.modTrunk fun t => { t with rx := a }))) := by
  simp only [← pollMissed_eq]
  obtain rfl | ⟨inFrame, rfl | ⟨d, rfl⟩⟩ | ⟨header, kind, d, long, rfl⟩ | ⟨f, rfl, hunting, plain, length, bad⟩ := cause
  · exact exec_close_of_window window
  · exact ⟨_, exec_gap_of_window window inFrame⟩
  · exact ⟨_, exec_byte_of_window window (.inr rfl) (receive_framing_error _ rfl _ inFrame)⟩
  · exact ⟨_, exec_byte_of_window window (.inl rfl) (receive_over_length header kind long)⟩
  · exact ⟨_, exec_bad_of_window window hunting plain length bad⟩

/-- The trunk capture after a change to SILENT (R155). -/
theorem nodeLoss_capture (s : State) (node : Node) : (s.nodeLoss node).trunk.capture =
    some (match s.trunk.capture with
      | none => ⟨node, s.now, false, 0⟩
      | some r => { r with overflow := true, overflowCount := min 255 (r.overflowCount + 1) }) := by
  unfold State.nodeLoss
  rw [State.modTrunk_trunk]
  dsimp only
  cases s.trunk.capture <;> rfl

/-- The assembler is free in what the handling of a reply or a miss leaves. -/
theorem Handled.of_rx {s v : State} {a : Assembler} (h : Handled (s.modTrunk fun t => { t with rx := a }) v) :
    Handled s v := ⟨h.store, h.trunk⟩

theorem missHandled_quiet {s : State} {node : Node} (kept : s.loses node = false) :
    missHandled node s = s.nodeMissed node := by
  unfold missHandled
  rw [kept]
  rfl

theorem missHandled_lost {s : State} {node : Node} (lost : s.loses node = true) :
    missHandled node s = nodeSilent s.acting node ((s.nodeMissed node).nodeLoss node) := if_pos lost

/-- A node that is lost is SILENT when the fault tests are made (R38, R140). -/
theorem nodeLoss_silent {s : State} {node : Node} (lost : s.loses node = true) :
    (((s.nodeMissed node).nodeLoss node).node node).state = .silent := by
  show ((s.nodeMissed node).node node).state = .silent
  rw [State.nodeMissed_node_self, if_pos lost]

/-- Settles O18: the miss is handled before the poll ends, and the fault tests of a change to SILENT are followed slot by
slot. -/
theorem missedPollCountsAndSilencesTheNode : Obligations.MissedPollCountsAndSilencesTheNode := by
  unfold Obligations.MissedPollCountsAndSilencesTheNode
  intro s node tag motion p timeout c window streak cause
  obtain ⟨a, taken⟩ := exec_missed window cause
  obtain ⟨nodeFrame, chanFrame, capture⟩ := endPoll_decisionFrame motion
    (missHandled node (s.modTrunk fun t => { t with rx := a }))
  have polled := nodeFrame node
  rw [missHandled_node, State.nodeMissed_node_self] at polled
  have handled := (handled_miss (s.modTrunk fun t => { t with rx := a }) node).of_rx
  have lost := State.loses_iff s node
  refine ⟨_, taken, endPoll_pollEnded handled motion, ?_, ?_, ?_, fun m other => ?_, fun c => ?_, fun empty idle => ?_⟩
  · rw [← polled]
    rfl
  · rw [← polled]
    rfl
  · rw [capture, missHandled_capture, nodeLoss_capture, ← polled]
    have same : (s.modTrunk fun t => { t with rx := a }).loses node = s.loses node := rfl
    rw [same]
    split
    · next loses =>
      rw [if_pos (lost.mpr loses), if_pos (lost.mpr loses)]
      exact ⟨rfl, rfl⟩
    · next keeps =>
      rw [if_neg (mt lost.mp keeps), if_neg (mt lost.mp keeps)]
      exact ⟨rfl, rfl⟩
  · have kept := nodeFrame m
    rw [missHandled_node, State.nodeMissed_node_ne _ _ other] at kept
    exact kept
  · have kept := chanFrame c
    unfold State.chan at kept ⊢
    rw [missHandled_chans] at kept
    exact kept
  · obtain ⟨same, -⟩ := endPoll_trunkAlone motion _ (by rw [handled.store]; exact idle)
      (by rw [handled.trunk]; exact empty)
    have slots : ∀ n, (endPoll motion (missHandled node (s.modTrunk fun t => { t with rx := a }))).slot n
        = (missHandled node (s.modTrunk fun t => { t with rx := a })).slot n := fun n => by rw [same]; rfl
    have entries : ∀ k, (endPoll motion (missHandled node (s.modTrunk fun t => { t with rx := a }))).entry k
        = (missHandled node (s.modTrunk fun t => { t with rx := a })).entry k := fun k => by rw [same]; rfl
    dsimp only
    refine ⟨fun keeps => ?_, fun loses n => ?_⟩
    · have quiet := missHandled_quiet (s := s.modTrunk fun t => { t with rx := a }) (node := node)
        (Bool.eq_false_of_not_eq_true (mt lost.mp keeps))
      rw [same, quiet]
      exact ⟨rfl, rfl⟩
    · have loses := lost.mpr loses
      have silent := nodeLoss_silent (s := s.modTrunk fun t => { t with rx := a }) loses
      rw [slots, entries, missHandled_lost (s := s.modTrunk fun t => { t with rx := a }) loses]
      refine ⟨fun hit => ?_, fun spared => ?_, fun hit mask entry held room => ?_⟩
      · exact nodeSilent_slot_hit silent hit
      · exact nodeSilent_slot_kept silent fun hit => Bool.false_ne_true (spared.symm.trans hit)
      · exact nodeSilent_queues silent hit mask entry held room

end Sys2Proof.Machine
end

section
/-!
PROOFS. A forwarded ZERO (O22): what its sending flags and empties, what its end clears and resets, and the two ways its
transaction ends.
-/

namespace Sys2Proof.Machine

/-! ## Runs of writes to channels and slots -/

/-- Setting the rezero flag of each channel of a list (R28, R153). -/
theorem flagChans_eq (x : Bool) (cs : List Chan) (s : State) :
    cs.foldl (fun s c => s.modChan c fun r => { r with rezero := x }) s = { s with
      chans := (cs.foldl (fun s c => s.modChan c fun r => { r with rezero := x }) s).chans } := by
  induction cs generalizing s with
  | nil => rfl
  | cons c cs ih =>
    rw [List.foldl_cons, ih]
    rfl

theorem flagChans_chan (x : Bool) (cs : List Chan) (s : State) (c : Chan) :
    (cs.foldl (fun s c => s.modChan c fun r => { r with rezero := x }) s).chan c
      = if c ∈ cs then { s.chan c with rezero := x } else s.chan c := by
  induction cs generalizing s with
  | nil => rfl
  | cons d cs ih =>
    rw [List.foldl_cons, ih]
    by_cases here : c = d
    · subst here
      rw [State.chan_modChan_self, if_pos (List.mem_cons_self ..)]
      exact ite_self _
    · simp only [State.chan_modChan_ne _ here, List.mem_cons, here, false_or]

theorem writeSlots_slot {g : SlotLive → SlotLive} (once : ∀ v, g (g v) = g v) (ns : List Slot) (s : State) (n : Slot) :
    (ns.foldl (fun s n => s.modSlot n g) s).slot n = if n ∈ ns then g (s.slot n) else s.slot n := by
  induction ns generalizing s with
  | nil => rfl
  | cons m ns ih =>
    rw [List.foldl_cons, ih]
    by_cases here : n = m
    · subst here
      rw [State.slot_modSlot_self, if_pos (List.mem_cons_self ..), once]
      exact ite_self _
    · simp only [State.slot_modSlot_ne _ here, List.mem_cons, here, false_or]

theorem writeSlots_eq (g : SlotLive → SlotLive) (ns : List Slot) (s : State) :
    ns.foldl (fun s n => s.modSlot n g) s = { s with slots := (ns.foldl (fun s n => s.modSlot n g) s).slots } := by
  induction ns generalizing s with
  | nil => rfl
  | cons n ns ih =>
    rw [List.foldl_cons, ih]
    rfl

/-! ## The rezero set -/

theorem mem_rezeroSet_chans {b : Bank} {node : Node} {mask : Byte} {c : Chan} : c ∈ (rezeroSet b node mask).chans
    ↔ nodeOf c = node ∧ mask.getLsbD (c.val % 8) = true ∧ (b.map c).route.isSome = true := by
  unfold rezeroSet
  simp only [List.mem_map, List.mem_filter, List.mem_finRange, true_and, Bool.and_eq_true]
  constructor
  · rintro ⟨k, ⟨named, routed⟩, rfl⟩
    rw [nodeOf_chanOf, chanOf_val_mod]
    exact ⟨rfl, named, routed⟩
  · rintro ⟨own, named, routed⟩
    have same := chanOf_of_nodeOf own
    exact ⟨_, ⟨named, by rw [same]; exact routed⟩, same⟩

theorem mem_rezeroSet_slots {b : Bank} {node : Node} {mask : Byte} {n : Slot} : n ∈ (rezeroSet b node mask).slots
    ↔ ∃ c ∈ (rezeroSet b node mask).chans, (b.map c).route = some n := by
  unfold rezeroSet
  simp only [List.mem_filter, mem_allSlots, true_and, List.any_eq_true, decide_eq_true_eq]

/-- A frame is a ZERO when it is addressed to a node and its first two payload bytes are 0x21 and the mask (R152). -/
theorem zeroMask_eq_some_iff {f : Frame} {mask : Byte} : zeroMask f = some mask
    ↔ f.node.isSome = true ∧ 2 ≤ f.payload.length ∧ byteAt f.payload 0 = 0x21 ∧ byteAt f.payload 1 = mask := by
  unfold zeroMask
  cases f.node with
  | none => simp
  | some node =>
    rcases f.payload with _ | ⟨cmd, _ | ⟨m, rest⟩⟩
    · simp
    · simp
    · simp [byteAt, Config.zeroCommand]

theorem rezeroOf_eq_some_iff {b : Bank} {f : Frame} {z : RezeroSet} : rezeroOf b f = some z
    ↔ ∃ node, f.node = some node ∧ 2 ≤ f.payload.length ∧ byteAt f.payload 0 = 0x21
      ∧ rezeroSet b node (byteAt f.payload 1) = z := by
  have mask := @zeroMask_eq_some_iff f
  unfold rezeroOf
  cases node : f.node with
  | none => simp
  | some node =>
    rw [node] at mask
    cases zero : zeroMask f with
    | none =>
      refine ⟨nofun, ?_⟩
      rintro ⟨-, -, long, command, -⟩
      have known := mask.mpr ⟨rfl, long, command, rfl⟩
      rw [zero] at known
      cases known
    | some m =>
      obtain ⟨-, long, command, rfl⟩ := mask.mp zero
      simp only [Option.some.injEq, exists_eq_left', long, command, true_and]

/-- The channels that a ZERO names and the bank routes, in the words of R152. -/
theorem mem_rezeroOf_chans {b : Bank} {f : Frame} {c : Chan} : (∃ z, rezeroOf b f = some z ∧ c ∈ z.chans)
    ↔ ∃ node, f.node = some node ∧ nodeOf c = node ∧ 2 ≤ f.payload.length ∧ byteAt f.payload 0 = 0x21
      ∧ (byteAt f.payload 1).getLsbD (c.val % 8) = true ∧ (b.map c).route.isSome = true := by
  simp only [rezeroOf_eq_some_iff]
  constructor
  · rintro ⟨_, ⟨node, addressed, long, command, rfl⟩, member⟩
    obtain ⟨own, named, routed⟩ := mem_rezeroSet_chans.mp member
    exact ⟨node, addressed, own, long, command, named, routed⟩
  · rintro ⟨node, addressed, own, long, command, named, routed⟩
    exact ⟨_, ⟨node, addressed, long, command, rfl⟩, mem_rezeroSet_chans.mpr ⟨own, named, routed⟩⟩

theorem mem_rezeroOf_slots {b : Bank} {f : Frame} {n : Slot} : (∃ z, rezeroOf b f = some z ∧ n ∈ z.slots)
    ↔ ∃ c, (∃ z, rezeroOf b f = some z ∧ c ∈ z.chans) ∧ (b.map c).route = some n := by
  have slots : ∀ z, rezeroOf b f = some z → (n ∈ z.slots ↔ ∃ c ∈ z.chans, (b.map c).route = some n) := by
    intro z zero
    obtain ⟨node, -, -, -, rfl⟩ := rezeroOf_eq_some_iff.mp zero
    exact mem_rezeroSet_slots
  constructor
  · rintro ⟨z, zero, member⟩
    obtain ⟨c, named, routed⟩ := (slots z zero).mp member
    exact ⟨c, ⟨z, zero, named⟩, routed⟩
  · rintro ⟨c, ⟨z, zero, named⟩, routed⟩
    exact ⟨z, zero, (slots z zero).mpr ⟨c, named, routed⟩⟩

/-! ## Sending a ZERO -/

theorem zeroSend_eq (z : RezeroSet) (s : State) :
    zeroSend z s = { s with chans := (zeroSend z s).chans, slots := (zeroSend z s).slots } := by
  unfold zeroSend
  dsimp only
  rw [writeSlots_eq, flagChans_eq]

theorem zeroSend_chan (z : RezeroSet) (s : State) (c : Chan) :
    (zeroSend z s).chan c = if c ∈ z.chans then { s.chan c with rezero := true } else s.chan c := by
  rw [← flagChans_chan]
  unfold zeroSend
  dsimp only
  rw [writeSlots_eq]
  rfl

theorem zeroSend_slot (z : RezeroSet) (s : State) (n : Slot) :
    (zeroSend z s).slot n = if n ∈ z.slots then { s.slot n with fresh := 0, window := none } else s.slot n := by
  unfold zeroSend
  dsimp only
  rw [writeSlots_slot (g := fun v => { v with fresh := 0, window := none }) (fun _ => rfl), flagChans_eq]
  rfl

section
variable (f : Frame) (rest : List Frame) (s : State)

/-- The state in which a forward's transaction starts: the ZERO snoop's effects made (R152). -/
def snooped : State :=
  match rezeroOf s.acting f with
  | some z => zeroSend z s
  | none => s

theorem startForward_eq : startForward f rest s = (snooped f s).modTrunk fun t => { t with
    txn := some ⟨.forward f.node (rezeroOf s.acting f), f, true, (snooped f s).replyTimeout⟩
    forwards := rest, lastKind := .forward } := rfl

theorem snooped_eq : snooped f s = { s with chans := (snooped f s).chans, slots := (snooped f s).slots } := by
  unfold snooped
  split
  · exact zeroSend_eq _ s
  · rfl

theorem snooped_chan_named {c : Chan} (h : ∃ z, rezeroOf s.acting f = some z ∧ c ∈ z.chans) :
    (snooped f s).chan c = { s.chan c with rezero := true } := by
  obtain ⟨z, zero, named⟩ := h
  unfold snooped
  rw [zero]
  dsimp only
  rw [zeroSend_chan, if_pos named]

theorem snooped_chan_other {c : Chan} (h : ¬ ∃ z, rezeroOf s.acting f = some z ∧ c ∈ z.chans) :
    (snooped f s).chan c = s.chan c := by
  unfold snooped
  split
  · next z zero => rw [zeroSend_chan, if_neg fun named => h ⟨z, zero, named⟩]
  · rfl

theorem snooped_slot_named {n : Slot} (h : ∃ z, rezeroOf s.acting f = some z ∧ n ∈ z.slots) :
    (snooped f s).slot n = { s.slot n with fresh := 0, window := none } := by
  obtain ⟨z, zero, named⟩ := h
  unfold snooped
  rw [zero]
  dsimp only
  rw [zeroSend_slot, if_pos named]

theorem snooped_slot_other {n : Slot} (h : ¬ ∃ z, rezeroOf s.acting f = some z ∧ n ∈ z.slots) :
    (snooped f s).slot n = s.slot n := by
  unfold snooped
  split
  · next z zero => rw [zeroSend_slot, if_neg fun named => h ⟨z, zero, named⟩]
  · rfl

end

/-! ## The end of a ZERO -/

/-- The record after the reset of a slot to UNKNOWN with nothing held back (R133, R153). -/
def SlotLive.zeroed (v : SlotLive) : SlotLive := { v.toUnknown with held := none }

theorem SameButHeld.zeroed {v w : SlotLive} (h : SameButHeld v w) : w.zeroed = v.zeroed := by
  obtain ⟨k, rfl⟩ := h.exists_held
  rfl

theorem SameButHeld.eq_of_none {v w : SlotLive} (h : SameButHeld v w) (own : v.held = none) (after : w.held = none) :
    w = v := by
  rw [h.eq, after, ← own]

section
variable (b : Bank) (n : Slot) (s : State)

/-- A withdrawal of all kinds takes the slot's entry from the queue, then clears its held-back flag (Table 8-5). -/
theorem withdrawSlot_all : withdrawSlot b n (fun _ => true) s =
    if ((withdraw b (.slot n) s).slot n).held.isSome = true then
      (withdraw b (.slot n) s).modSlot n fun v => { v with held := none }
    else withdraw b (.slot n) s := by
  have any : ∀ k : Option AlertKind, k.any (fun _ => true) = k.isSome := fun k => by cases k <;> rfl
  unfold withdrawSlot
  cases entry : s.entry (.slot n) with
  | none =>
    have same : withdraw b (.slot n) s = s := by
      unfold withdraw
      rw [entry]
    simp only [any, same]
  | some e => simp only [any, if_true]

theorem withdrawSlot_all_held : ((withdrawSlot b n (fun _ => true) s).slot n).held = none := by
  rw [withdrawSlot_all]
  split
  · rw [State.slot_modSlot_self]
  · next free => exact Option.not_isSome_iff_eq_none.mp free

theorem withdraw_entry (apart : HeldApart n s) : (withdraw b (.slot n) s).entry (.slot n) = none := by
  unfold withdraw
  cases entry : s.entry (.slot n) with
  | none => exact entry
  | some e =>
    have free : (s.slot n).held = none := by
      by_contra held
      rw [apart held] at entry
      cases entry
    have cleared : (s.setAlerts (without (.slot n) s.alerts)).entry (.slot n) = none := entryIn_without_self _ _
    rw [((reoffer_beside b n (s.setAlerts (without (.slot n) s.alerts))).of_not_held free).1, cleared]

/-- Nothing of the slot is queued after the withdrawal of all its kinds, a held-back slot having had no entry (R133). -/
theorem withdrawSlot_all_entry (apart : HeldApart n s) :
    (withdrawSlot b n (fun _ => true) s).entry (.slot n) = none := by
  have cleared := withdraw_entry b n s apart
  rw [withdrawSlot_all]
  split
  · exact cleared
  · exact cleared

theorem zeroReset_held : ((zeroReset b n s).slot n).held = none := withdrawSlot_all_held b n _

/-- A reset slot (R133, R153). -/
theorem zeroReset_slot_eq : (zeroReset b n s).slot n = (s.slot n).zeroed := by
  have written := zeroReset_slot b n s
  rw [written.eq, zeroReset_held]
  rfl

theorem zeroReset_acts : SlotActs b n s (zeroReset b n s) := by
  have reset : SlotActs b n s (s.modSlot n SlotLive.toUnknown) := modSlot_acts b n s fun _ => rfl
  unfold zeroReset
  dsimp only
  split
  · exact (reset.tail (.leave _)).tail (.withdraw _ _)
  · exact reset.tail (.withdraw _ _)

theorem zeroReset_entry (apart : HeldApart n s) : (zeroReset b n s).entry (.slot n) = none := by
  have reset : HeldApart n (s.modSlot n SlotLive.toUnknown) := fun held => by
    rw [State.slot_modSlot_self] at held
    exact apart held
  unfold zeroReset
  dsimp only
  split
  · obtain ⟨l, p, left⟩ := leaveMotion_eq b n (s.modSlot n SlotLive.toUnknown)
    rw [left]
    exact withdrawSlot_all_entry b n _ reset
  · exact withdrawSlot_all_entry b n _ reset

end

section
variable (b : Bank) {n : Slot}

/-- The slots of a rezero set are reset, those named twice too. -/
theorem zeroResets_slot {ns : List Slot} {s : State} (h : n ∈ ns ∨ (s.slot n).zeroed = s.slot n) :
    (ns.foldl (fun s n => zeroReset b n s) s).slot n = (s.slot n).zeroed := by
  induction ns generalizing s with
  | nil => exact (h.resolve_left List.not_mem_nil).symm
  | cons m ns ih =>
    rw [List.foldl_cons]
    by_cases here : n = m
    · subst here
      have own := zeroReset_slot_eq b n s
      rw [ih (.inr (by rw [own]; rfl)), own]
      rfl
    · have same := (zeroReset_visit b m s).others n here
      rw [ih ?_, same.zeroed]
      obtain member | done := h
      · exact .inl ((List.mem_cons.mp member).resolve_left here)
      · have free : (s.slot n).held = none := by rw [← done]; rfl
        have kept := ((zeroReset_acts b m s).beside here).of_not_held free
        rw [same.eq_of_none free kept.2]
        exact .inr done

/-- Nothing of a reset slot stays queued (R133). -/
theorem zeroResets_entry {ns : List Slot} {s : State} (apart : HeldApart n s)
    (h : n ∈ ns ∨ (s.entry (.slot n) = none ∧ (s.slot n).held = none)) :
    (ns.foldl (fun s n => zeroReset b n s) s).entry (.slot n) = none := by
  induction ns generalizing s with
  | nil => exact (h.resolve_left List.not_mem_nil).1
  | cons m ns ih =>
    rw [List.foldl_cons]
    by_cases here : n = m
    · subst here
      have free := zeroReset_held b n s
      exact ih (fun held => absurd free held) (.inr ⟨zeroReset_entry b n s apart, free⟩)
    · have beside := (zeroReset_acts b m s).beside here
      refine ih (beside apart).1 ?_
      obtain member | ⟨empty, free⟩ := h
      · exact .inl ((List.mem_cons.mp member).resolve_left here)
      · obtain ⟨entry, free⟩ := beside.of_not_held free
        exact .inr ⟨entry.trans empty, free⟩

theorem zeroResets_slot_other {ns : List Slot} (h : n ∉ ns) (s : State) :
    SameButHeld (s.slot n) ((ns.foldl (fun s n => zeroReset b n s) s).slot n) :=
  foldl_visits_not_mem _ (fun s m => zeroReset_visit b m s) h s

end

section
variable (z : RezeroSet) (s : State)

/-- The state in which the flags of a ZERO's channels have been cleared (R153). -/
def unflagged : State := z.chans.foldl (fun s c => s.modChan c fun r => { r with rezero := false }) s

theorem unflagged_eq : unflagged z s = { s with chans := (unflagged z s).chans } := flagChans_eq false z.chans s

theorem unflagged_slot (n : Slot) : (unflagged z s).slot n = s.slot n := by
  rw [unflagged_eq]
  rfl

theorem unflagged_entry (k : AlertKey) : (unflagged z s).entry k = s.entry k := by
  rw [unflagged_eq]
  rfl

theorem zeroEnd_fail : zeroEnd z false s = unflagged z s := rfl

theorem zeroEnd_ok : zeroEnd z true s
    = z.slots.foldl (fun t n => zeroReset (unflagged z s).acting n t) (unflagged z s) := rfl

theorem zeroEnd_slotPath (ok : Bool) : SlotPath (unflagged z s) (zeroEnd z ok s) := by
  cases ok with
  | false => exact .refl _
  | true => exact SlotPath.foldl _ (fun t n => zeroReset_slotPath _ n t) _ _

theorem zeroEnd_chan (ok : Bool) (c : Chan) :
    (zeroEnd z ok s).chan c = if c ∈ z.chans then { s.chan c with rezero := false } else s.chan c := by
  rw [SlotPath.chan (zeroEnd_slotPath z s ok)]
  exact flagChans_chan false z.chans s c

/-- The end of a ZERO leaves the table store, the forward queue and the aisle link alone. -/
theorem zeroEnd_frame (ok : Bool) : (zeroEnd z ok s).store = s.store
    ∧ (zeroEnd z ok s).trunk.forwards = s.trunk.forwards ∧ (zeroEnd z ok s).link = s.link := by
  have path := zeroEnd_slotPath z s ok
  have forwards : (zeroEnd z ok s).trunk.forwards = (unflagged z s).trunk.forwards :=
    (congrArg (fun t : State => t.trunk.forwards) path :)
  rw [path.store, forwards, path.link, unflagged_eq]
  exact ⟨rfl, rfl, rfl⟩

end

/-! ## The end of a ZERO's transaction -/

section
variable {s : State} {node : Node} {z : RezeroSet} {f : Frame} {timeout : Nat}
  (hunting : s.trunk.rx = Assembler.reset)
  (window : s.trunk.txn = some ⟨.forward (some node) (some z), f, false, timeout⟩)
include hunting window

/-- The first whole frame from the node toward the aisle ends the transaction (R144). -/
theorem exec_reply_of_forward {r : Frame} (crc : r.crcOk = true) (length : r.payload.length ≤ 240)
    (plain : r.addr ≠ 0xD5) (station : r.station = node.val + 1) (aisle : r.towardAisle = true) :
    exec (.trunkFrameReceived (rxBytes r.wire)) s = .next (endForward r (some z) r.okResponse s) := by
  have reply : isReply node r = true := by
    unfold isReply
    rw [crc, frame_node_iff.mpr station, aisle]
    simp
  rw [exec_frame_of_window hunting window plain length]
  unfold windowFrame
  dsimp only
  rw [if_pos reply]

theorem exec_close_of_forward : exec .replyWindowClose s
    = .next (endForward (fwdFailFrame node f) (some z) false s) := by
  have same : (s.modTrunk fun t => { t with rx := if t.rx.inFrame then Assembler.reset else t.rx }) = s := by
    have rx : (if s.trunk.rx.inFrame then Assembler.reset else s.trunk.rx) = s.trunk.rx := by
      rw [hunting]
      rfl
    show { s with trunk := { s.trunk with rx := if s.trunk.rx.inFrame then Assembler.reset else s.trunk.rx } } = s
    rw [rx]
  show execReplyWindowClose s = _
  unfold execReplyWindowClose
  dsimp only
  rw [window, same]

end

/-- With no forward waiting and no switch pending the decision after a ZERO's end moves the trunk alone. -/
theorem arbitrate_zeroEnd_quiet {z : RezeroSet} {ok : Bool} {u : State} (empty : u.trunk.forwards = [])
    (idle : u.store.requested = none) :
    (arbitrate (zeroEnd z ok u)).chans = (zeroEnd z ok u).chans
    ∧ (arbitrate (zeroEnd z ok u)).slots = (zeroEnd z ok u).slots
    ∧ (arbitrate (zeroEnd z ok u)).alerts = (zeroEnd z ok u).alerts ∧ (arbitrate (zeroEnd z ok u)).link = u.link := by
  obtain ⟨store, forwards, link⟩ := zeroEnd_frame z u ok
  obtain ⟨same, -⟩ := trunkAlone_decides.arbitrate (zeroEnd z ok u) (by rw [store]; exact idle)
    (by rw [forwards]; exact empty)
  rw [same]
  exact ⟨rfl, rfl, rfl, link⟩

/-- Settles O22: what is sent is the snooped state with the transaction, what ends is the flags cleared and the slots reset
one by one, and either end of the transaction is a return followed by that and a decision. -/
theorem zeroFlagsItsChannelsAndResetsItsSlotsAfterOk : Obligations.ZeroFlagsItsChannelsAndResetsItsSlotsAfterOk := by
  unfold Obligations.ZeroFlagsItsChannelsAndResetsItsSlotsAfterOk
  refine ⟨fun s f rest => ?_, fun s z => ⟨?_, ?_, ?_, ?_, ?_⟩, ?_⟩
  · dsimp only
    simp only [← mem_rezeroOf_chans, ← mem_rezeroOf_slots]
    rw [startForward_eq]
    refine ⟨?_, ?_, rfl, rfl, fun c named => ?_, fun c other => ?_, fun n named => ?_, fun n other => ?_⟩
    · rw [snooped_eq]
      rfl
    · simp
    · exact snooped_chan_named f s named
    · exact snooped_chan_other f s other
    · exact snooped_slot_named f s named
    · exact snooped_slot_other f s other
  · rw [zeroEnd_fail]
    exact unflagged_eq z s
  · exact fun ok c => zeroEnd_chan z s ok c
  · intro n member
    rw [zeroEnd_ok, zeroResets_slot _ (.inl member), unflagged_slot]
    rfl
  · intro heldOk _ n member
    rw [zeroEnd_ok]
    refine zeroResets_entry _ (fun held => ?_) (.inl member)
    rw [unflagged_slot] at held
    obtain ⟨k, held⟩ := Option.ne_none_iff_exists'.mp held
    rw [unflagged_entry]
    exact (heldOk n k held).2.1
  · intro n other
    rw [zeroEnd_ok]
    have kept := zeroResets_slot_other (unflagged z s).acting other (unflagged z s)
    rw [unflagged_slot] at kept
    exact kept
  · intro s node z f r timeout hunting window crc length plain station aisle p hp
    have returned : ∀ g, (placeReturn g s.endTxn).trunk.forwards = s.trunk.forwards
        ∧ (placeReturn g s.endTxn).store = s.store := fun g => by
      unfold placeReturn
      split <;> exact ⟨rfl, rfl⟩
    have ended : exec p.1 s = .next (endForward p.2.1 (some z) p.2.2 s) := by
      rw [List.mem_cons, List.mem_singleton] at hp
      obtain rfl | rfl := hp
      · exact exec_reply_of_forward hunting window crc length plain station aisle
      · exact exec_close_of_forward hunting window
    refine ⟨_, ended, rfl, fun empty idle => ?_⟩
    obtain ⟨forwards, store⟩ := returned p.2.1
    exact arbitrate_zeroEnd_quiet (forwards.trans empty) (store ▸ idle)

end Sys2Proof.Machine
end

section
/-!
PROOFS. Settle windows: what a run of samples leaves in a window, the settled weight (O26), and the close tests (O27).
-/

namespace Sys2Proof.Machine

/-! ## The samples of a window -/

/-- The samples of a run that lie within the band of an anchor (R42). -/
def inBand (band : Nat) (anchor : Int) (xs : List Int) : List Int := xs.filter fun y => (y - anchor).natAbs ≤ band

/-- The window after a run of samples taken into an open one (R42). -/
def Window.takeAll (w : Window) (band : Nat) (xs : List Int) : Window :=
  xs.foldl (fun w y => Window.take (some w) band y) w

/-- A run of samples keeps the anchor, counts every sample, and adds up those within the band. -/
theorem Window.takeAll_eq (w : Window) (band : Nat) (xs : List Int) : w.takeAll band xs =
    ⟨w.anchor, w.sum + (inBand band w.anchor xs).sum, w.agree + (inBand band w.anchor xs).length,
      w.count + xs.length⟩ := by
  induction xs generalizing w with
  | nil => simp [Window.takeAll, inBand]
  | cons y xs ih =>
    have step : w.takeAll band (y :: xs) = (Window.take (some w) band y).takeAll band xs := rfl
    rw [step, ih]
    unfold Window.take inBand
    dsimp only
    split
    · next near => simp [near, Int.add_assoc, Nat.add_assoc, Nat.add_comm 1]
    · next far => simp [far, Nat.add_assoc, Nat.add_comm 1]

/-- Samples within the band add up to a sum within the band of as many anchors. -/
theorem inBand_sum (band : Nat) (x : Int) (xs : List Int) :
    (inBand band x xs).length * (x - band) ≤ (inBand band x xs).sum
    ∧ (inBand band x xs).sum ≤ (inBand band x xs).length * (x + band) := by
  have near : ∀ y ∈ inBand band x xs, x - band ≤ y ∧ y ≤ x + band := fun y member => by
    have near := of_decide_eq_true (List.mem_filter.mp member).2
    omega
  simp only [← nsmul_eq_mul]
  exact ⟨List.card_nsmul_le_sum _ _ fun y member => (near y member).1,
    List.sum_le_card_nsmul _ _ fun y member => (near y member).2⟩

/-! ## The settled weight -/

/-- Rounding half up is off by half a unit at most, and upwards on an exact half (spec 0.8). -/
theorem divHalfUp_nearest (x : Int) {y : Int} (pos : 0 < y) :
    2 * (divHalfUp x y * y - x) ≤ y ∧ -y < 2 * (divHalfUp x y * y - x) := by
  have below := Int.ediv_mul_le (2 * x + y) (b := 2 * y) (by omega)
  have above := Int.lt_ediv_add_one_mul_self (2 * x + y) (b := 2 * y) (by omega)
  unfold divHalfUp
  constructor <;> linarith

/-- A quotient between two whole numbers is rounded to a number between them. -/
theorem divHalfUp_between {x y lo hi : Int} (pos : 0 < y) (above : y * lo ≤ x) (below : x ≤ y * hi) :
    lo ≤ divHalfUp x y ∧ divHalfUp x y ≤ hi := by
  unfold divHalfUp
  constructor
  · rw [Int.le_ediv_iff_mul_le (by omega)]
    linarith
  · rw [← Int.lt_add_one_iff, Int.ediv_lt_iff_lt_mul (by omega)]
    linarith

/-- The settled weight of a run lies within the band of its first sample (R44). -/
theorem settledWeight_inBand (band : Nat) (x : Int) (xs : List Int) :
    (((Window.take none band x).takeAll band xs).settledWeight - x).natAbs ≤ band := by
  obtain ⟨above, below⟩ := inBand_sum band x xs
  have within := divHalfUp_between (x := x + (inBand band x xs).sum) (y := 1 + (inBand band x xs).length)
    (lo := x - band) (hi := x + band) (by omega) (by linarith) (by linarith)
  rw [Window.takeAll_eq]
  unfold Window.settledWeight Window.take
  push_cast
  omega

/-- Settles O26: the fields of a window by induction on its samples, and the settled weight as their rounded mean. -/
theorem windowHoldsAgreeingSamplesAndSettlesInTheBand :
    Obligations.WindowHoldsAgreeingSamplesAndSettlesInTheBand := by
  unfold Obligations.WindowHoldsAgreeingSamplesAndSettlesInTheBand
  refine ⟨fun band x xs => ?_, settledWeight_inBand, fun w agrees => ?_⟩
  · have held := (Window.take none band x).takeAll_eq band xs
    unfold Window.takeAll at held
    dsimp only
    rw [held]
    exact ⟨rfl, Nat.add_comm _ _, Nat.add_comm _ _, rfl⟩
  · exact divHalfUp_nearest w.sum (by omega)

/-! ## The close tests -/

section
variable (w : Window) (width threshold : Nat)

/-- A window closes unsettled exactly when the samples still to come cannot bring its agree count to T (R43). -/
theorem verdict_unsettled_iff (counted : w.count ≤ width) :
    w.verdict width threshold = .unsettled ↔ w.agree + (width - w.count) < threshold := by
  unfold Window.verdict
  split
  · exact iff_of_true rfl (by omega)
  · split
    · split
      · exact iff_of_false (by decide) (by omega)
      · exact iff_of_true rfl (by omega)
    · exact iff_of_false (by decide) (by omega)

/-- A window settles exactly when it is full and T of its samples agree (R43). -/
theorem verdict_settled_iff : w.verdict width threshold = .settled ↔ w.count = width ∧ threshold ≤ w.agree := by
  unfold Window.verdict
  split
  · exact iff_of_false (by decide) (by omega)
  · split
    · next full =>
      split
      · next agrees => exact iff_of_true rfl ⟨full, agrees⟩
      · next few => exact iff_of_false (by decide) fun h => few h.2
    · next short => exact iff_of_false (by decide) fun h => short h.1

/-- A window stays open exactly when neither close applies. -/
theorem verdict_stays_iff : w.verdict width threshold = .stays
    ↔ w.verdict width threshold ≠ .unsettled ∧ w.verdict width threshold ≠ .settled := by
  cases w.verdict width threshold <;> decide

end

/-- Settles O27: each outcome by its own test. -/
theorem windowClosesWhenItsOutcomeIsCertain : Obligations.WindowClosesWhenItsOutcomeIsCertain := by
  unfold Obligations.WindowClosesWhenItsOutcomeIsCertain
  intro w width threshold positive within anchored agrees counted
  rw [verdict_stays_iff, ne_eq, ne_eq, verdict_unsettled_iff w width threshold counted, verdict_settled_iff]
  exact ⟨by omega, .rfl, .rfl, by omega⟩

end Sys2Proof.Machine
end

section
/-!
SUPPORT. The motion list: which nodes carry a slot, what the offers of an unsettled close make of the list and of its
overflow count (R47, R149), and which nodes leave it with a slot that has left motion (R151).
-/

namespace Sys2Proof.Machine

/-! ## A list without its repeats -/

section
variable {α : Type} [DecidableEq α]

theorem distinct_concat (xs : List α) (x : α) :
    distinct (xs ++ [x]) = if x ∈ distinct xs then distinct xs else distinct xs ++ [x] := by
  unfold distinct
  rw [List.foldl_append]
  rfl

theorem mem_distinct {xs : List α} {a : α} : a ∈ distinct xs ↔ a ∈ xs := by
  induction xs using List.reverseRecOn with
  | nil => rfl
  | append_singleton xs x ih =>
    rw [distinct_concat, List.mem_append, List.mem_singleton, ← ih]
    split
    · next old => exact ⟨.inl, fun h => h.elim id fun same => same ▸ old⟩
    · rw [List.mem_append, List.mem_singleton]

theorem distinct_nodup (xs : List α) : (distinct xs).Nodup := by
  induction xs using List.reverseRecOn with
  | nil => exact List.nodup_nil
  | append_singleton xs x ih =>
    rw [distinct_concat]
    split
    · exact ih
    · next new => exact List.nodup_append_comm.mp (List.nodup_cons.mpr ⟨new, ih⟩)

theorem distinct_sublist (xs : List α) : (distinct xs).Sublist xs := by
  induction xs using List.reverseRecOn with
  | nil => exact .refl _
  | append_singleton xs x ih =>
    rw [distinct_concat]
    split
    · exact ih.trans (List.sublist_append_left xs [x])
    · exact ih.append (.refl [x])

end

/-! ## The nodes of a slot -/

theorem mem_memberNodes_iff {b : Bank} {n : Slot} {node : Node} : node ∈ b.memberNodes n ↔ b.carries n node := by
  unfold Bank.memberNodes Bank.carries
  rw [mem_distinct, List.mem_map]

theorem mem_liveNodes_iff {b : Bank} {n : Slot} {node : Node} : node ∈ b.liveNodes n ↔ b.carriesLive n node := by
  unfold Bank.liveNodes Bank.carriesLive
  rw [mem_distinct, List.mem_map]

/-- The members of a slot stand in the order of their nodes. -/
theorem liveMembers_nodes_sorted (b : Bank) (n : Slot) :
    ((b.liveMembers n).map fun p => nodeOf p.1).Pairwise (· ≤ ·) := by
  unfold Bank.liveMembers
  rw [members_eq, List.filter_map, List.map_map, List.pairwise_map, List.filter_filter]
  refine List.Pairwise.filter _ ((List.pairwise_le_finRange 256).imp fun {c d} le => ?_)
  exact Nat.div_le_div_right (Fin.le_def.mp le)

/-- The nodes with a LIVE member of a slot are taken in ascending order. -/
theorem liveNodes_eq (b : Bank) (n : Slot) : b.liveNodes n =
    (List.finRange 32).filter fun node => (b.liveMembers n).any fun p => nodeOf p.1 = node := by
  have sorted : (b.liveNodes n).Pairwise (· ≤ ·) := (liveMembers_nodes_sorted b n).sublist (distinct_sublist _)
  refine List.Perm.eq_of_pairwise' sorted ((List.pairwise_le_finRange 32).filter _) ?_
  have once : (b.liveNodes n).Nodup := distinct_nodup _
  rw [List.perm_ext_iff_of_nodup once ((List.nodup_finRange 32).filter _)]
  intro node
  rw [mem_liveNodes_iff, List.mem_filter]
  simp [Bank.carriesLive]

/-! ## Offers (R149) -/

theorem offerNode_listed {node : Node} {s : State} (listed : node ∈ s.trunk.motionList) : offerNode node s = s :=
  if_pos listed

theorem offerNode_joins {node : Node} {s : State} (new : node ∉ s.trunk.motionList)
    (room : s.trunk.motionList.length < 8) : offerNode node s =
      { s with trunk := { s.trunk with motionList := s.trunk.motionList ++ [node] } } := by
  unfold offerNode
  rw [if_neg new]
  exact if_pos room

theorem offerNode_refused {node : Node} {s : State} (new : node ∉ s.trunk.motionList)
    (full : 8 ≤ s.trunk.motionList.length) : offerNode node s = { s with mgmt := { s.mgmt with
      counters := { s.mgmt.counters with motionOverflow := min 65535 (s.mgmt.counters.motionOverflow + 1) } } } := by
  unfold offerNode
  rw [if_neg new]
  exact if_neg (Nat.not_lt.mpr full)

/-- The motion overflow count after `k` new nodes were offered to a list with this much room. -/
def overflowAfter (room k count : Nat) : Nat := if k ≤ room then count else min 65535 (count + (k - room))

/-- A node that takes a place leaves the others one place less. -/
theorem overflowAfter_succ_succ (room k count : Nat) :
    overflowAfter (room + 1) (k + 1) count = overflowAfter room k count := by
  unfold overflowAfter
  split <;> split <;> omega

/-- A node that finds no place is counted before the others. -/
theorem overflowAfter_zero_succ (k count : Nat) :
    overflowAfter 0 (k + 1) count = overflowAfter 0 k (min 65535 (count + 1)) := by
  unfold overflowAfter
  split <;> split <;> omega

/-- The state after these nodes, none of which is listed, have been offered to the motion list in turn. -/
def State.withOffers (s : State) (new : List Node) : State := { s with
  trunk := { s.trunk with motionList := s.trunk.motionList ++ new.take (8 - s.trunk.motionList.length) }
  mgmt := { s.mgmt with counters := { s.mgmt.counters with
    motionOverflow := overflowAfter (8 - s.trunk.motionList.length) new.length s.mgmt.counters.motionOverflow } } }

theorem withOffers_nil (s : State) : s.withOffers [] = s := by
  unfold State.withOffers overflowAfter
  simp

/-- A new node offered before the others takes a place or is counted. -/
theorem withOffers_cons {node : Node} {s : State} (new : node ∉ s.trunk.motionList) (ns : List Node) :
    s.withOffers (node :: ns) = (offerNode node s).withOffers ns := by
  obtain room | full := Nat.lt_or_ge s.trunk.motionList.length 8
  · have places : 8 - s.trunk.motionList.length = 7 - s.trunk.motionList.length + 1 := by omega
    rw [offerNode_joins new room]
    simp [State.withOffers, places, overflowAfter_succ_succ]
  · have places : 8 - s.trunk.motionList.length = 0 := by omega
    rw [offerNode_refused new full]
    simp [State.withOffers, places, overflowAfter_zero_succ]

/-- Nodes offered in turn: those not listed yet join in their order while there is room, the rest is counted. -/
theorem foldl_offerNode {ns : List Node} (once : ns.Nodup) (s : State) :
    ns.foldl (fun s node => offerNode node s) s = s.withOffers (ns.filter (· ∉ s.trunk.motionList)) := by
  induction ns generalizing s with
  | nil => exact (withOffers_nil s).symm
  | cons x ns ih =>
    obtain ⟨apart, once⟩ := List.nodup_cons.mp once
    rw [List.foldl_cons, ih once]
    by_cases listed : x ∈ s.trunk.motionList
    · rw [offerNode_listed listed, List.filter_cons_of_neg (by simp [listed])]
    · have same : ns.filter (· ∉ (offerNode x s).trunk.motionList) = ns.filter (· ∉ s.trunk.motionList) := by
        refine List.filter_congr fun y member => ?_
        have other : y ≠ x := fun e => apart (e ▸ member)
        obtain room | full := Nat.lt_or_ge s.trunk.motionList.length 8
        · rw [offerNode_joins listed room]
          simp [other]
        · rw [offerNode_refused listed full]
      rw [List.filter_cons_of_pos (by simp [listed]), withOffers_cons listed, same]

/-- The nodes an unsettled close offers anew: those with a LIVE member of the slot that are not listed (R47). -/
def newNodes (b : Bank) (n : Slot) (s : State) : List Node :=
  (List.finRange 32).filter fun node =>
    (b.liveMembers n).any (fun p => nodeOf p.1 = node) && node ∉ s.trunk.motionList

theorem offerNodes_withOffers (b : Bank) (n : Slot) (s : State) :
    offerNodes b n s = s.withOffers (newNodes b n s) := by
  have new : (b.liveNodes n).filter (· ∉ s.trunk.motionList) = newNodes b n s := by
    rw [liveNodes_eq, List.filter_filter]
    exact List.filter_congr fun _ _ => Bool.and_comm _ _
  rw [← new]
  exact foldl_offerNode (distinct_nodup _) s

/-! ## Leaving (R151) -/

/-- A node is needed exactly while an enabled slot in motion has a LIVE member on it. -/
theorem needed_iff {b : Bank} {node : Node} {s : State} : needed b node s = true
    ↔ ∃ m, (s.slot m).motion.isSome = true ∧ (b.cfg m).enabled = true ∧ b.carriesLive m node := by
  unfold needed
  simp only [List.any_eq_true, Bool.and_eq_true, liveOn_iff, mem_allSlots, true_and, and_assoc]

/-- A node leaves the motion list if it stands on it and is not needed. -/
def leaveIfFree (b : Bank) (s : State) (node : Node) : State :=
  if node ∈ s.trunk.motionList ∧ needed b node s = false then s.modTrunk (·.dropNode node) else s

theorem leaveMotion_eq_foldl (b : Bank) (n : Slot) (s : State) :
    leaveMotion b n s = (b.memberNodes n).foldl (leaveIfFree b) s := rfl

/-- Of a list without repeats, those of the given nodes leave that are not needed, and the rest keep their order. -/
theorem foldl_leaveIfFree_motionList (b : Bank) (ns : List Node) (s : State) (once : s.trunk.motionList.Nodup) :
    (ns.foldl (leaveIfFree b) s).trunk.motionList
      = s.trunk.motionList.filter fun node => node ∉ ns || needed b node s := by
  induction ns generalizing s with
  | nil => simp
  | cons x ns ih =>
    rw [List.foldl_cons, leaveIfFree]
    split
    · next leaves =>
      obtain ⟨-, free⟩ := leaves
      have dropped : (s.modTrunk (·.dropNode x)).trunk.motionList = s.trunk.motionList.filter (· != x) :=
        once.erase_eq_filter x
      have needs : ∀ node, needed b node (s.modTrunk (·.dropNode x)) = needed b node s := fun _ => rfl
      rw [ih _ (dropped ▸ once.filter _), dropped, List.filter_filter]
      refine List.filter_congr fun node _ => ?_
      rw [needs]
      by_cases same : node = x
      · simp [same, free]
      · simp [same]
    · next stays =>
      rw [ih s once]
      refine List.filter_congr fun node listed => ?_
      by_cases same : node = x
      · subst same
        have need : needed b node s = true := by
          rw [← Bool.not_eq_false]
          exact fun free => stays ⟨listed, free⟩
        simp [need]
      · simp [same]

theorem leaveMotion_motionList (b : Bank) (n : Slot) {s : State} (once : s.trunk.motionList.Nodup) :
    (leaveMotion b n s).trunk.motionList
      = s.trunk.motionList.filter fun node => node ∉ b.memberNodes n || needed b node s := by
  rw [leaveMotion_eq_foldl]
  exact foldl_leaveIfFree_motionList b _ s once

/-- Leaving motion writes the motion list and its pointer. -/
theorem leaveMotion_trunk (b : Bank) (n : Slot) (s : State) : (leaveMotion b n s).trunk = { s.trunk with
    motionList := (leaveMotion b n s).trunk.motionList, motionPtr := (leaveMotion b n s).trunk.motionPtr } := by
  obtain ⟨l, p, left⟩ := leaveMotion_eq b n s
  rw [left]

end Sys2Proof.Machine
end

section
/-!
PROOFS. The closes of a settle window (O28): an unsettled close starts or keeps motion, offers the nodes and tests the
motion limit; a settled close ends motion and counts (R45 to R49).
-/

namespace Sys2Proof.Machine

/-! ## INSPECT -/

/-- An INSPECT of a slot of which nothing waits joins a queue with room (R70). -/
theorem raiseInspect_entry (b : Bank) {n : Slot} (r : InspectReason) (c : Option Nat) {s : State}
    (mask : maskHas s.mgmt.mask .inspect = false) (entry : s.entry (.slot n) = none) (held : (s.slot n).held = none)
    (room : s.alerts.length < 64) : (raiseInspect b n r c s).entry (.slot n) = some
      ⟨⟨.slot n, .inspect, r.alertReason, c, none, none, some (b.cfg n).article, s.now⟩, false⟩ := by
  have queued : raiseInspect b n r c s = (s.modSlot n fun v => { v with inspection := some r }).enqueue b
      (slotAlert b n .inspect r.alertReason c none s) :=
    raiseAlert_enqueue rfl mask entry (by rw [State.slot_modSlot_self]; exact held) room
  rw [queued]
  show entryIn (.slot n) (joinTail ⟨slotAlert b n .inspect r.alertReason c none s, false⟩ s.alerts) = _
  exact entryIn_joinTail_self rfl entry

/-! ## The unsettled close -/

/-- A record whose window has closed unsettled: in motion from now on, or as before (R46). -/
def SlotLive.moving (now : Word) (v : SlotLive) : SlotLive :=
  { v with window := none, motion := some (v.motion.getD now) }

/-- The state in which an unsettled close tests the motion limit: motion noted and the nodes offered (R46, R47). -/
def movingState (b : Bank) (n : Slot) (s : State) : State :=
  (s.modSlot n (·.moving s.now)).withOffers (newNodes b n s)

theorem movingState_slot (b : Bank) (n : Slot) (s : State) : (movingState b n s).slot n = (s.slot n).moving s.now :=
  State.slot_modSlot_self s n (·.moving s.now)

/-- The elapsed time has reached the motion limit and no INSPECT was raised in this run of motion (R48). -/
abbrev reportsMotion (b : Bank) (n : Slot) (s : State) : Prop :=
  (b.cfg n).motionLimit.toNat ≤ (s.now - (s.slot n).motion.getD s.now).toNat ∧ (s.slot n).motionReported = false

/-- An unsettled close notes motion, offers the nodes, and reports at the motion limit. -/
theorem unsettledClose_eq (b : Bank) (n : Slot) (s : State) : unsettledClose b n s =
    if reportsMotion b n s then
      raiseInspect b n .motion (s.slot n).count
        ((movingState b n s).modSlot n fun v => { v with motionReported := true })
    else movingState b n s := by
  have offered : unsettledClose b n s = motionLimitTest b n (movingState b n s) :=
    congrArg (motionLimitTest b n) (offerNodes_withOffers b n _)
  rw [offered]
  unfold motionLimitTest
  dsimp only
  rw [movingState_slot]
  rfl

section
variable (b : Bank) (n : Slot) (s : State)

theorem unsettledClose_onlySlot : OnlySlot n (movingState b n s) (unsettledClose b n s) := by
  rw [unsettledClose_eq]
  split
  · exact (modSlot_onlySlot _ n _).trans (raiseInspect_onlySlot b n _ _ _)
  · exact .refl n _

/-- The record after an unsettled close, its held-back flag aside (R46, R48). -/
theorem unsettledClose_record : SameButHeld { s.slot n with
      window := none, motion := some ((s.slot n).motion.getD s.now)
      motionReported := if reportsMotion b n s then true else (s.slot n).motionReported
      inspection := if reportsMotion b n s then some .motion else (s.slot n).inspection }
    ((unsettledClose b n s).slot n) := by
  rw [unsettledClose_eq]
  split
  · have raised := raiseInspect_slot b n .motion (s.slot n).count
      ((movingState b n s).modSlot n fun v => { v with motionReported := true })
    rw [State.slot_modSlot_self, movingState_slot] at raised
    exact raised
  · rw [movingState_slot]
    exact .refl _

/-- The frame of an unsettled close: the offers, and what the INSPECT may write. -/
theorem unsettledClose_frame : unsettledClose b n s = { s.withOffers (newNodes b n s) with
    slots := (unsettledClose b n s).slots
    alerts := (unsettledClose b n s).alerts
    mgmt := { (s.withOffers (newNodes b n s)).mgmt with
      counters := { (s.withOffers (newNodes b n s)).mgmt.counters with
        queueOverflow := (unsettledClose b n s).mgmt.counters.queueOverflow } } } :=
  (unsettledClose_onlySlot b n s).1

variable {b n s}

theorem unsettledClose_quiet (early : ¬ reportsMotion b n s) : (unsettledClose b n s).alerts = s.alerts := by
  rw [unsettledClose_eq, if_neg early]
  rfl

theorem unsettledClose_entry (reports : reportsMotion b n s) (mask : maskHas s.mgmt.mask .inspect = false)
    (entry : s.entry (.slot n) = none) (held : (s.slot n).held = none) (room : s.alerts.length < 64) :
    (unsettledClose b n s).entry (.slot n) = some
      ⟨⟨.slot n, .inspect, .motion, (s.slot n).count, none, none, some (b.cfg n).article, s.now⟩, false⟩ := by
  rw [unsettledClose_eq, if_pos reports]
  refine raiseInspect_entry b .motion _ mask entry ?_ room
  rw [State.slot_modSlot_self, movingState_slot]
  exact held

end

/-! ## Counting leaves the trunk alone -/

theorem classifyChange_trunk (b : Bank) (n : Slot) (old c : Nat) (s : State) :
    (classifyChange b n old c s).trunk = s.trunk := by
  unfold classifyChange
  split
  · rfl
  · split
    · split
      · rfl
      · exact (doPutBack_onlySlot b n _ c s).trunk
    · rfl

theorem counting_trunk (b : Bank) (n : Slot) (g : Int) (s : State) : (counting b n g s).trunk = s.trunk := by
  unfold counting
  split
  · unfold acceptedCount
    dsimp only
    split
    · exact (handOff_onlySlot b n _).trunk
    · exact (handOff_onlySlot b n _).trunk.trans (classifyChange_trunk b n _ _ _)
  · exact (ambiguousCount_onlySlot b n s).trunk

/-! ## The settled close -/

/-- The state in which a slot that has come to rest leaves motion. -/
def stillState (n : Slot) (s : State) : State :=
  (s.modSlot n fun v => { v with window := none }).modSlot n fun v =>
    { v with motion := none, motionReported := false }

section
variable (b : Bank) (n : Slot) (g : Int) (s : State)

/-- An accepted weight is counted in the record at rest (R45, R49). -/
theorem settledClose_accepted (fits : accepted (b.cfg n) g = true) :
    Counted (b.cfg n) (countOf (b.cfg n) g) ((s.slot n).atRest g) ((settledClose b n g s).slot n) := by
  rw [settledClose_eq, counting, if_pos fits, ← restState_slot b n g s]
  exact acceptedCount_slot b n _ _

/-- An ambiguous weight leaves the record at rest, the streak and the inspection aside (R60). -/
theorem settledClose_ambiguous (misses : accepted (b.cfg n) g = false) : ∃ k i,
    SameButHeld { (s.slot n).atRest g with streak := k, inspection := i } ((settledClose b n g s).slot n) := by
  rw [settledClose_eq, counting, if_neg (by rw [misses]; decide), ← restState_slot b n g s]
  exact ambiguousCount_slot b n _

/-- Either way the window is empty, motion is over and the weight is stored. -/
theorem settledClose_record : ((settledClose b n g s).slot n).window = none
    ∧ ((settledClose b n g s).slot n).motion = none ∧ ((settledClose b n g s).slot n).motionReported = false
    ∧ ((settledClose b n g s).slot n).lastSettled = some g
    ∧ ((settledClose b n g s).slot n).fresh = (s.slot n).fresh
    ∧ ((settledClose b n g s).slot n).fault = (s.slot n).fault := by
  by_cases fits : accepted (b.cfg n) g = true
  · obtain ⟨fault, fresh, window, motion, reported, settled, -⟩ := (settledClose_accepted b n g s fits).frame
    exact ⟨window, motion, reported, settled, fresh, fault⟩
  · obtain ⟨k, i, same⟩ := settledClose_ambiguous b n g s (Bool.eq_false_iff.mpr fits)
    exact ⟨same.window, same.motion, same.motionReported, same.lastSettled, same.fresh, same.fault⟩

theorem settledClose_trunk : (settledClose b n g s).trunk =
    (clearMotion b n (s.modSlot n fun v => { v with window := none })).trunk := counting_trunk b n g _

variable {b n s}

theorem settledClose_trunk_of_still (still : (s.slot n).motion = none) : (settledClose b n g s).trunk = s.trunk := by
  rw [settledClose_trunk]
  unfold clearMotion
  rw [State.slot_modSlot_self, still]
  rfl

theorem settledClose_trunk_of_motion (moving : (s.slot n).motion.isSome = true) :
    (settledClose b n g s).trunk = (leaveMotion b n (stillState n s)).trunk := by
  rw [settledClose_trunk]
  unfold clearMotion
  rw [State.slot_modSlot_self]
  dsimp only
  rw [if_pos moving]
  rfl

/-- A node is needed after the slot has left motion exactly when another slot needs it. -/
theorem needed_stillState {node : Node} : needed b node (stillState n s) = true
    ↔ ∃ m, m ≠ n ∧ (s.slot m).motion.isSome = true ∧ (b.cfg m).enabled = true ∧ b.carriesLive m node := by
  have motion : ∀ m, ((stillState n s).slot m).motion.isSome = true ↔ m ≠ n ∧ (s.slot m).motion.isSome = true := by
    intro m
    unfold stillState
    by_cases own : m = n
    · subst own
      rw [State.slot_modSlot_self]
      exact iff_of_false Bool.false_ne_true fun h => h.1 rfl
    · rw [State.slot_modSlot_ne _ own, State.slot_modSlot_ne _ own]
      exact (and_iff_right own).symm
  rw [needed_iff]
  simp only [motion, and_assoc]

/-- Of the motion list, the nodes of the slot that no other slot needs leave at a settled close out of motion (R151). -/
theorem settledClose_motionList (moving : (s.slot n).motion.isSome = true) (once : s.trunk.motionList.Nodup) :
    (settledClose b n g s).trunk.motionList
      = s.trunk.motionList.filter fun node => node ∉ b.memberNodes n || needed b node (stillState n s) := by
  rw [settledClose_trunk_of_motion g moving]
  exact leaveMotion_motionList b n once

end

/-- Settles O28: the unsettled close is the offers followed by the motion limit test, and the settled close is motion
left followed by a count. -/
theorem unsettledCloseStartsOrKeepsMotion : Obligations.UnsettledCloseStartsOrKeepsMotion := by
  unfold Obligations.UnsettledCloseStartsOrKeepsMotion
  refine ⟨fun b n s => ?_, fun b n g s => ?_⟩
  · exact ⟨(unsettledClose_record b n s).eq, (unsettledClose_slotVisit b n s).others, unsettledClose_quiet,
      unsettledClose_entry, unsettledClose_frame b n s⟩
  · obtain ⟨window, motion, reported, settled, fresh, fault⟩ := settledClose_record b n g s
    refine ⟨window, motion, reported, settled, fresh, fault, fun fits => ?_, fun misses => ?_,
      (settledClose_slotVisit b n g s).others, settledClose_trunk_of_still g, fun moving listOk => ?_⟩
    · obtain ⟨-, -, -, -, -, -, count⟩ := (settledClose_accepted b n g s fits).frame
      exact count
    · obtain ⟨k, i, same⟩ := settledClose_ambiguous b n g s misses
      exact ⟨same.count, same.stock⟩
    · obtain ⟨-, once, -⟩ := listOk
      have list := settledClose_motionList (b := b) g moving once
      refine ⟨?_, ?_, fun node => ?_⟩
      · dsimp only
        rw [settledClose_trunk_of_motion g moving]
        exact leaveMotion_trunk b n (stillState n s)
      · rw [list]
        exact List.filter_sublist
      · rw [list, List.mem_filter, Bool.or_eq_true, decide_eq_true_eq, mem_memberNodes_iff, needed_stillState]

end Sys2Proof.Machine
end

section
/-!
PROOFS. The count of a settled weight and its tolerance test (O29): a weight within tolerance of a whole number of units
rounds to that number, so neither a tie nor a clamped count is accepted (R57 to R59); an ambiguous count raises the
streak, and INSPECT at the ambiguity limit (R60).
-/

namespace Sys2Proof.Machine

/-! ## Rounding within half a unit -/

/-- Two multiples of a unit that lie less than a unit apart are the same multiple. -/
theorem eq_of_mul_apart_lt {i j y : Int} (below : -y < (i - j) * y) (above : (i - j) * y < y) : i = j := by
  have pos : 0 < y := by linarith
  have lower : -1 < i - j := lt_of_mul_lt_mul_right (by linarith) pos.le
  have upper : i - j < 1 := lt_of_mul_lt_mul_right (by linarith) pos.le
  omega

/-- A weight less than half a unit away from a whole number of units is rounded to that number. -/
theorem divHalfUp_of_near {x y k : Int} (near : 2 * (x - k * y).natAbs < y) : divHalfUp x y = k := by
  obtain ⟨roundedAbove, roundedBelow⟩ := divHalfUp_nearest x (y := y) (by omega)
  have spread : (divHalfUp x y - k) * y = (divHalfUp x y * y - x) + (x - k * y) := by ring
  apply eq_of_mul_apart_lt (y := y)
  · omega
  · omega

/-- A weight less than half a unit away from a whole number of units is not a tie (R59). -/
theorem ne_tie_of_near {x y c : Int} (near : 2 * (x - c * y).natAbs < y) (k : Int) : 2 * x ≠ (2 * k + 1) * y := by
  intro tie
  have apart : (2 * k + 1 - 2 * c) * y = 2 * (x - c * y) := by linarith
  have same : 2 * k + 1 = 2 * c := eq_of_mul_apart_lt (y := y) (by omega) (by omega)
  omega

/-! ## The tolerance test -/

section
variable {cfg : SlotCfg} {g : Int}

/-- A weight within tolerance of `k` units (R58). -/
def withinTolerance (cfg : SlotCfg) (g k : Int) : Prop :=
  256 * (g - cfg.tare.toNat - k * cfg.unitWeight.toNat).natAbs ≤ cfg.tolerance.toNat * cfg.unitWeight.toNat

theorem accepted_iff : accepted cfg g = true ↔ withinTolerance cfg g (countOf cfg g) := decide_eq_true_iff

theorem countOf_eq_clamp : (countOf cfg g : Int) = max 0 (min 65535 (rawCount cfg g)) :=
  Int.toNat_of_nonneg (Int.le_max_left _ _)

theorem countOf_of_rawCount {k : Nat} (raw : rawCount cfg g = k) (range : k ≤ 65535) : countOf cfg g = k := by
  have clamped := countOf_eq_clamp (cfg := cfg) (g := g)
  omega

/-- The tolerance is less than half a unit (R59). -/
theorem near_of_withinTolerance (unit : cfg.unitWeight ≠ 0) (small : cfg.tolerance.toNat ≤ 127) {k : Int}
    (h : withinTolerance cfg g k) :
    2 * ((g - cfg.tare.toNat - k * cfg.unitWeight.toNat).natAbs : Int) < cfg.unitWeight.toNat := by
  have pos : 0 < cfg.unitWeight.toNat := Nat.pos_of_ne_zero (BitVec.toNat_ne.mp unit)
  have scaled := Nat.mul_le_mul_right cfg.unitWeight.toNat small
  unfold withinTolerance at h
  omega

end

/-! ## An ambiguous count -/

section
variable (b : Bank) (n : Slot) (s : State)

/-- The streak before an ambiguous count is the last below the ambiguity limit (R60). -/
abbrev reachesLimit : Prop := (s.slot n).streak + 1 = (b.cfg n).ambiguity.toNat

/-- The record of an ambiguous count, its held-back flag aside (R60). -/
theorem ambiguousCount_record : SameButHeld { s.slot n with
      streak := if (s.slot n).streak < (b.cfg n).ambiguity.toNat then (s.slot n).streak + 1 else (s.slot n).streak
      inspection := if reachesLimit b n s then some .ambiguous else (s.slot n).inspection }
    ((ambiguousCount b n s).slot n) := by
  unfold ambiguousCount
  dsimp only
  split
  · split
    · have raised := raiseInspect_slot b n .ambiguous (s.slot n).count
        (s.modSlot n fun v => { v with streak := v.streak + 1 })
      rw [State.slot_modSlot_self] at raised
      exact raised
    · rw [State.slot_modSlot_self]
      exact .refl _
  · next atLimit =>
    rw [if_neg (show ¬ reachesLimit b n s by unfold reachesLimit; omega)]
    exact .refl _

variable {b n s}

theorem ambiguousCount_quiet (other : ¬ reachesLimit b n s) : (ambiguousCount b n s).alerts = s.alerts := by
  unfold ambiguousCount
  dsimp only
  rw [if_neg other]
  split
  · rfl
  · rfl

theorem ambiguousCount_entry (reaches : reachesLimit b n s) (mask : maskHas s.mgmt.mask .inspect = false)
    (entry : s.entry (.slot n) = none) (held : (s.slot n).held = none) (room : s.alerts.length < 64) :
    (ambiguousCount b n s).entry (.slot n) = some
      ⟨⟨.slot n, .inspect, .ambiguous, (s.slot n).count, none, none, some (b.cfg n).article, s.now⟩, false⟩ := by
  unfold ambiguousCount
  dsimp only
  rw [if_pos (Nat.lt_of_succ_le reaches.le), if_pos reaches]
  exact raiseInspect_entry b .ambiguous _ mask entry (by rw [State.slot_modSlot_self]; exact held) room

theorem counting_ambiguous {g : Int} (misses : accepted (b.cfg n) g = false) :
    counting b n g s = ambiguousCount b n s := if_neg (by rw [misses]; decide)

end

/-- Settles O29: what lies within tolerance of a whole number of units lies less than half a unit away from it, and so
rounds to it. -/
theorem onlyCountsInToleranceAreAccepted : Obligations.OnlyCountsInToleranceAreAccepted := by
  unfold Obligations.OnlyCountsInToleranceAreAccepted
  refine ⟨fun cfg g unit small => ⟨accepted_iff, fun fits => ?_, countOf_eq_clamp, fun k range within => ?_⟩,
    fun b n g s misses => ?_⟩
  · have near := near_of_withinTolerance unit small (accepted_iff.mp fits)
    exact ⟨divHalfUp_of_near near, countOf_le cfg g, ne_tie_of_near near⟩
  · have raw : rawCount cfg g = k := divHalfUp_of_near (near_of_withinTolerance unit small within)
    have count := countOf_of_rawCount raw range
    rw [accepted_iff, count]
    exact ⟨within, rfl⟩
  · rw [counting_ambiguous misses]
    exact ⟨ambiguousCount_onlySlot b n s, (ambiguousCount_record b n s).eq, ambiguousCount_quiet, ambiguousCount_entry⟩

end Sys2Proof.Machine
end

section
/-!
PROOFS. What an accepted count makes of the change from the count it replaces (O30): the totals, the removed sum, the
session and the inspection by Table 4-3 (R61 to R66), and the INSPECT of a large put-back, which no alert of the
hand-off displaces.
-/

namespace Sys2Proof.Machine

/-! ## The two kinds of accepted count -/

section
variable {b : Bank} {n : Slot} {s : State} {c : Nat}

/-- The state in which an accepted count finds its slot: the streak is over (R61). -/
def calmState (n : Slot) (s : State) : State := s.modSlot n fun v => { v with streak := 0 }

theorem calmState_slot : (calmState n s).slot n = { s.slot n with streak := 0 } := State.slot_modSlot_self s n _

theorem counting_accepted {g : Int} (fits : accepted (b.cfg n) g = true) :
    counting b n g s = acceptedCount b n (countOf (b.cfg n) g) s := if_pos fits

theorem acceptedCount_unknown (unknown : (s.slot n).stock = .unknown) :
    acceptedCount b n c s = handOff b n (firstCount b n c (calmState n s)) := by
  have confirmed : (calmState n s).confirmed n = none := by
    unfold State.confirmed
    rw [calmState_slot]
    exact if_pos unknown
  unfold acceptedCount
  dsimp only
  rw [show (s.modSlot n fun v => { v with streak := 0 }).confirmed n = none from confirmed]
  rfl

/-- The state that an accepted count hands on where there was a count before (R61, R67). -/
def changedState (b : Bank) (n : Slot) (old c : Nat) (s : State) : State :=
  (classifyChange b n old c (calmState n s)).modSlot n fun v => { v with count := some c }

theorem acceptedCount_known {old : Nat} (known : (s.slot n).stock ≠ .unknown) (count : (s.slot n).count = some old) :
    acceptedCount b n c s = handOff b n (changedState b n old c s) := by
  have confirmed : (calmState n s).confirmed n = some old := by
    unfold State.confirmed
    rw [calmState_slot]
    exact (if_neg known).trans count
  unfold acceptedCount
  dsimp only
  rw [show (s.modSlot n fun v => { v with streak := 0 }).confirmed n = some old from confirmed]
  rfl

end

/-! ## What the hand-off leaves alone -/

/-- The hand-off writes the fields of the stock state and of the arming decision (R67). -/
theorem handOff_frame (b : Bank) (n : Slot) (s : State) : (handOff b n s).slot n = { s.slot n with
    stock := ((handOff b n s).slot n).stock, acked := ((handOff b n s).slot n).acked
    deadline := ((handOff b n s).slot n).deadline, projection := ((handOff b n s).slot n).projection
    armed := ((handOff b n s).slot n).armed, held := ((handOff b n s).slot n).held } := by
  obtain ⟨p, x, -, written⟩ := handOff_slot b n s
  rw [written.eq, evaluated_frame]

theorem Counted.streak {cfg : SlotCfg} {c : Nat} {v w : SlotLive} (h : Counted cfg c v w) : w.streak = 0 := by
  obtain ⟨u, minute, p, x, frame, -, -, rfl⟩ := h
  rw [evaluated_frame, frame]

/-- A first count starts the forecast window if there is one, and changes no total (R62). -/
theorem firstCount_record (b : Bank) (n : Slot) (c : Nat) (s : State) : (firstCount b n c s).slot n = { s.slot n with
    count := some c, elapsed := if (b.cfg n).forecast = 0 then (s.slot n).elapsed else some 0 } := by
  have unused : (b.cfg n).forecast.toNat = 0 ↔ (b.cfg n).forecast = 0 := BitVec.toNat_inj (y := 0)
  unfold firstCount SlotLive.startForecast
  rw [State.slot_modSlot_self]
  simp only [unused]
  split
  · rfl
  · rfl

/-! ## The change of the record -/

/-- The record after the change from `old` to `c` has been classified (Table 4-3, R63 to R66, R97). -/
def SlotLive.afterChange (cfg : SlotCfg) (covered : Bool) (old c : Nat) (v : SlotLive) : SlotLive := { v with
  removed := v.removed + BitVec.ofNat 32 (old - c)
  putBack := v.putBack + (if covered then 0 else BitVec.ofNat 32 (c - old))
  replenished := v.replenished + (if covered then BitVec.ofNat 32 (c - old) else 0)
  removedSum := if cfg.forecast = 0 then v.removedSum
    else if c < old then min 16777215 (v.removedSum + (old - c))
    else if covered then v.removedSum else v.removedSum - (c - old)
  inspection := if covered = false ∧ cfg.putLimit.toNat < c - old then some .addition else v.inspection }

section
variable (b : Bank) (n : Slot) (s : State) {old c : Nat}

theorem doPutBack_record (k : Nat) : SameButHeld { s.slot n with
      putBack := addUnits (s.slot n).putBack k
      removedSum := if (b.cfg n).forecast = 0 then (s.slot n).removedSum else (s.slot n).removedSum - k
      inspection := if (b.cfg n).putLimit.toNat < k then some .addition else (s.slot n).inspection }
    ((doPutBack b n k c s).slot n) := by
  unfold doPutBack
  dsimp only
  split
  · have raised := raiseInspect_slot b n .addition (some c) (s.modSlot n fun v => { v with
      putBack := addUnits v.putBack k
      removedSum := if (b.cfg n).forecast = 0 then v.removedSum else v.removedSum - k })
    rw [State.slot_modSlot_self] at raised
    exact raised
  · rw [State.slot_modSlot_self]
    exact .refl _

theorem classifyChange_of_take (h : c < old) : classifyChange b n old c s = take b n (old - c) s := if_pos h

theorem classifyChange_of_same : classifyChange b n c c s = s := by simp [classifyChange]

theorem classifyChange_of_replenish {id : SessionId} (h : old < c) (covers : s.coveringId n = some id) :
    classifyChange b n old c s = replenish n id (c - old) s := by
  simp [classifyChange, h, h.le.not_gt, covers]

theorem classifyChange_of_putBack (h : old < c) (uncovered : s.coveringId n = none) :
    classifyChange b n old c s = doPutBack b n (c - old) c s := by
  simp [classifyChange, h, h.le.not_gt, uncovered]

theorem classifyChange_record :
    SameButHeld ((s.slot n).afterChange (b.cfg n) (s.covered n) old c) ((classifyChange b n old c s).slot n) := by
  unfold SlotLive.afterChange
  obtain less | rfl | more := Nat.lt_trichotomy c old
  · have added : c - old = 0 := Nat.sub_eq_zero_of_le less.le
    rw [classifyChange_of_take b n s less, take, State.slot_modSlot_self]
    simp [added, less, addUnits, SameButHeld, Config.removedMax]
  · rw [classifyChange_of_same]
    simp [SameButHeld]
  · have taken : old - c = 0 := Nat.sub_eq_zero_of_le more.le
    unfold State.covered
    cases covers : s.coveringId n with
    | some id =>
      rw [classifyChange_of_replenish b n s more covers, replenish, State.slot_modSlot_self]
      simp [taken, more.le.not_gt, addUnits, SameButHeld]
    | none =>
      rw [classifyChange_of_putBack b n s more covers]
      have put := doPutBack_record b n s (c := c) (c - old)
      simpa [taken, more.le.not_gt, addUnits] using put

/-! ## The change of the sessions -/

/-- Only a replenishment changes a session, and of it the units added (R64). -/
theorem classifyChange_session (id : SessionId) : (classifyChange b n old c s).session id =
    if s.coveringId n = some id then
      (s.session id).map fun r => { r with added := r.added + BitVec.ofNat 32 (c - old) }
    else s.session id := by
  have unchanged : c ≤ old → s.session id = if s.coveringId n = some id then
      (s.session id).map fun r => { r with added := r.added + BitVec.ofNat 32 (c - old) } else s.session id := by
    intro le
    simp [Nat.sub_eq_zero_of_le le]
  obtain less | rfl | more := Nat.lt_trichotomy c old
  · rw [classifyChange_of_take b n s less]
    exact unchanged less.le
  · rw [classifyChange_of_same]
    exact unchanged le_rfl
  · cases covers : s.coveringId n with
    | some own =>
      rw [classifyChange_of_replenish b n s more covers, replenish, State.session_modSlot, State.session_setSession]
      by_cases same : id = own
      · subst same
        rw [if_pos rfl, if_pos rfl]
        rfl
      · rw [if_neg same, if_neg fun h => same (Option.some.inj h).symm]
    | none =>
      rw [classifyChange_of_putBack b n s more covers, if_neg nofun]
      exact congrArg (·[id]) (doPutBack_onlySlot b n _ c s).sessions

end

/-! ## The INSPECT of a large put-back -/

section
variable {b : Bank} {n : Slot} {s : State} {e : AlertEntry}

/-- A RECOVERED or a FORECAST leaves a queued INSPECT of its slot as it is (Table 8-3). -/
theorem raiseAlert_entry_under_inspect {a : Alert} (key : a.key = .slot n)
    (kind : a.kind = .recovered ∨ a.kind = .forecast) (queued : s.entry (.slot n) = some e)
    (inspect : e.alert.kind = .inspect) : (raiseAlert b a s).entry (.slot n) = some e := by
  have kept : merge b a e s = s := by
    unfold merge
    rw [inspect]
    obtain recovered | forecast := kind
    · rw [recovered]
      rfl
    · rw [forecast]
      rfl
  unfold raiseAlert
  split
  · exact queued
  · rw [key, queued]
    dsimp only
    rw [kept]
    exact queued

/-- A count that is not 0 leaves no slot EMPTY, and a STOCKED slot above its reorder point STOCKED (Table 5-3). -/
theorem classify_of_rise {p q c : Nat} {cur : StockState} (known : cur ≠ .unknown) (units : 0 < c)
    (above : cur = .stocked → p < c) :
    classify p q c cur = .stocked ∨ classify p q c cur = .low ∧ cur.short = true := by
  unfold classify
  rw [if_neg units.ne']
  cases cur with
  | unknown => exact absurd rfl known
  | stocked =>
    rw [if_neg (above rfl).not_ge]
    split
    · exact .inl rfl
    · exact .inl rfl
  | low | empty =>
    split
    · exact .inr ⟨rfl, rfl⟩
    · split
      · exact .inl rfl
      · exact .inr ⟨rfl, rfl⟩

/-- Such a count raises RECOVERED or nothing (Table 5-6). -/
theorem transitionAlert_of_rise (cfg : SlotCfg) {c : Nat} {cur : StockState} (known : cur ≠ .unknown) (units : 0 < c)
    (above : cur = .stocked → cfg.reorder.toNat < c) {k : AlertKind}
    (raised : transitionAlert cfg cur (classify cfg.reorder.toNat cfg.clear.toNat c cur) = some k) :
    k = .recovered := by
  obtain stocked | ⟨low, short⟩ := classify_of_rise (q := cfg.clear.toNat) known units above
  · rw [stocked, transitionAlert] at raised
    split at raised
    · exact (Option.some.inj raised).symm
    · cases raised
  · rw [low, transitionAlert, if_pos short] at raised
    cases raised

theorem stockEvaluate_entry_under_inspect {c : Nat} (count : (s.slot n).count = some c)
    (known : (s.slot n).stock ≠ .unknown) (units : 0 < c)
    (above : (s.slot n).stock = .stocked → (b.cfg n).reorder.toNat < c) (queued : s.entry (.slot n) = some e)
    (inspect : e.alert.kind = .inspect) : (stockEvaluate b n s).entry (.slot n) = some e := by
  unfold stockEvaluate transition
  rw [count]
  dsimp only
  split
  · exact queued
  · split
    · next kind raised =>
      split
      · exact queued
      · exact raiseAlert_entry_under_inspect rfl (.inl (transitionAlert_of_rise _ known units above raised)) queued
          inspect
    · exact queued

theorem recompute_entry_under_inspect (queued : s.entry (.slot n) = some e) (inspect : e.alert.kind = .inspect) :
    (recompute b n s).entry (.slot n) = some e := by
  unfold recompute arming
  dsimp only
  split
  · exact queued
  · split
    · exact raiseAlert_entry_under_inspect rfl (.inr rfl) queued inspect
    · exact queued

theorem doPutBack_entry {k c : Nat} (large : (b.cfg n).putLimit.toNat < k)
    (mask : maskHas s.mgmt.mask .inspect = false) (entry : s.entry (.slot n) = none) (held : (s.slot n).held = none)
    (room : s.alerts.length < 64) : (doPutBack b n k c s).entry (.slot n) = some
      ⟨⟨.slot n, .inspect, .addition, some c, none, none, some (b.cfg n).article, s.now⟩, false⟩ := by
  unfold doPutBack
  dsimp only
  rw [if_pos large]
  exact raiseInspect_entry b .addition _ mask entry (by rw [State.slot_modSlot_self]; exact held) room

end

/-! ## The change as the hand-off finds it -/

section
variable (b : Bank) (n : Slot) (s : State) (old c : Nat)

theorem changedState_record : SameButHeld
    { (s.slot n).afterChange (b.cfg n) (s.covered n) old c with streak := 0, count := some c }
    ((changedState b n old c s).slot n) := by
  have classified := classifyChange_record b n (calmState n s) (old := old) (c := c)
  rw [calmState_slot] at classified
  exact classified.modSlot (f := fun v => { v with count := some c }) fun _ _ => rfl

theorem changedState_session (id : SessionId) : (changedState b n old c s).session id =
    if s.coveringId n = some id then
      (s.session id).map fun r => { r with added := r.added + BitVec.ofNat 32 (c - old) }
    else s.session id := classifyChange_session b n (calmState n s) id

variable {b n s old c}

/-- The INSPECT of a large put-back outlasts the hand-off. -/
theorem handOff_changedState_entry (known : (s.slot n).stock ≠ .unknown)
    (large : s.covered n = false ∧ (b.cfg n).putLimit.toNat < c - old)
    (above : (s.slot n).stock = .stocked → (b.cfg n).reorder.toNat < old)
    (mask : maskHas s.mgmt.mask .inspect = false) (entry : s.entry (.slot n) = none) (held : (s.slot n).held = none)
    (room : s.alerts.length < 64) : (handOff b n (changedState b n old c s)).entry (.slot n) = some
      ⟨⟨.slot n, .inspect, .addition, some c, none, none, some (b.cfg n).article, s.now⟩, false⟩ := by
  obtain ⟨uncovered, large⟩ := large
  have free : s.coveringId n = none := Option.isNone_iff_eq_none.mp (Option.isSome_eq_false_iff.mp uncovered)
  have record := changedState_record b n s old c
  have stock : ((changedState b n old c s).slot n).stock = (s.slot n).stock := record.stock
  have queued : (changedState b n old c s).entry (.slot n) = some
      ⟨⟨.slot n, .inspect, .addition, some c, none, none, some (b.cfg n).article, s.now⟩, false⟩ := by
    unfold changedState
    rw [classifyChange_of_putBack b n (calmState n s) (by omega) free]
    exact doPutBack_entry large mask entry (by rw [calmState_slot]; exact held) room
  refine recompute_entry_under_inspect (stockEvaluate_entry_under_inspect record.count (stock ▸ known) (by omega)
    (fun stocked => ?_) queued rfl) rfl
  exact (above (stock ▸ stocked)).trans (by omega)

end

/-- Settles O30: the classified change is handed on, and the hand-off leaves totals, sessions and inspection alone. -/
theorem acceptedCountClassifiesTheChange : Obligations.AcceptedCountClassifiesTheChange := by
  unfold Obligations.AcceptedCountClassifiesTheChange
  rintro b n g s c fits rfl
  dsimp only
  rw [counting_accepted fits]
  generalize countOf (b.cfg n) g = c
  have counted := acceptedCount_slot b n c s
  obtain ⟨-, -, -, -, -, -, count⟩ := counted.frame
  refine ⟨count, counted.streak, (acceptedCount_slotVisit b n c s).others, fun unknown => ?_,
    fun old known count => ?_⟩
  · have kept := handOff_frame b n (firstCount b n c (calmState n s))
    rw [firstCount_record, calmState_slot] at kept
    rw [acceptedCount_unknown unknown, kept]
    exact ⟨rfl, rfl, rfl, (handOff_onlySlot b n _).sessions, rfl, rfl⟩
  · have kept := handOff_frame b n (changedState b n old c s)
    have sessions := (handOff_onlySlot b n (changedState b n old c s)).sessions
    rw [(changedState_record b n s old c).eq] at kept
    rw [acceptedCount_known known count, kept]
    exact ⟨rfl, rfl, rfl, rfl, rfl, fun id => (congrArg (·[id]) sessions).trans (changedState_session b n s old c id),
      rfl, handOff_changedState_entry known⟩

end Sys2Proof.Machine
end

section
/-!
PROOFS. Stock alerts: the entry a stock alert joins the queue as, the repeat of a standing alert (O6), and the stock
evaluation by Tables 5-3, 5-6 and 5-7 (O31).
-/

namespace Sys2Proof.Machine

/-! ## A stock alert of a slot of which nothing waits -/

/-- The stock alert of a slot, where there is one (R79, R81). -/
def raiseStockIf (b : Bank) (n : Slot) (kind : Option AlertKind) (s : State) : State :=
  kind.elim s fun k => raiseStock b n k s

/-- The tier of a stock alert, as the queue's entry states it (R124). -/
theorem stockAlert_tier {k : AlertKind} (stock : k ≠ .fault) (urgentClass : Bool) :
    k.urgent urgentClass = (k = .empty || (k = .low && urgentClass)) := by
  cases k with
  | fault => exact absurd rfl stock
  | empty => rfl
  | low => cases urgentClass <;> rfl
  | lapsed | recovered | forecast | inspect => rfl

section
variable {b : Bank} {n : Slot} {s : State} {k : AlertKind}

theorem raiseStock_enqueue (mask : maskHas s.mgmt.mask k = false) (entry : s.entry (.slot n) = none)
    (held : (s.slot n).held = none) (room : s.alerts.length < 64) :
    raiseStock b n k s = s.enqueue b (slotAlert b n k .noReason (s.slot n).count none s) :=
  raiseAlert_enqueue rfl mask entry held room

/-- A stock alert of a slot of which nothing waits joins a queue with room (R81, R129). -/
theorem raiseStock_entry (stock : k ≠ .fault) (mask : maskHas s.mgmt.mask k = false)
    (entry : s.entry (.slot n) = none) (held : (s.slot n).held = none) (room : s.alerts.length < 64) :
    (raiseStock b n k s).entry (.slot n) = some (stockEntry b n k s) := by
  have tier : (slotAlert b n k .noReason (s.slot n).count none s).urgent b
      = (k = .empty || (k = .low && (b.cfg n).urgentClass)) := stockAlert_tier stock _
  rw [raiseStock_enqueue mask entry held room, entry_eq_entryIn, State.enqueue, tier]
  exact entryIn_joinTail_self (e := stockEntry b n k s) rfl entry

theorem raiseStock_held (mask : maskHas s.mgmt.mask k = false) (entry : s.entry (.slot n) = none)
    (held : (s.slot n).held = none) (room : s.alerts.length < 64) : ((raiseStock b n k s).slot n).held = none := by
  rw [raiseStock_enqueue mask entry held room]
  exact held

end

/-! ## Repeats -/

/-- The standing alert of a repeating slot that is short is always there (Table 5-5). -/
theorem standing_of_repeating (emptyAlert : Bool) {stock : StockState} (short : stock.short = true) :
    standing .repeating emptyAlert stock = some (if stock = .empty ∧ emptyAlert = true then .empty else .low) := by
  cases stock with
  | unknown | stocked => cases short
  | low => rfl
  | empty => cases emptyAlert <;> rfl

theorem standing_ne_fault {mode : TriggerMode} {emptyAlert : Bool} {stock : StockState} {k : AlertKind}
    (h : standing mode emptyAlert stock = some k) : k ≠ .fault := by
  rintro rfl
  unfold standing at h
  dsimp only at h
  repeat' split at h
  all_goals cases h

/-- A repeat queues the standing alert of a slot of which nothing waits (R86). -/
theorem repeatStep_entry {b : Bank} {n : Slot} {s : State} {k : AlertKind} (due : repeatDue b n s = true)
    (kind : standing (b.cfg n).mode (b.cfg n).emptyAlert (s.slot n).stock = some k)
    (mask : maskHas s.mgmt.mask k = false) (entry : s.entry (.slot n) = none) (held : (s.slot n).held = none)
    (room : s.alerts.length < 64) : (repeatStep b n s).entry (.slot n) = some (stockEntry b n k s) := by
  unfold repeatStep doRepeat
  rw [if_pos due, kind]
  exact raiseStock_entry (standing_ne_fault kind) mask entry held room

/-- An acknowledged, covered or faulted slot fails the repeat test (R87). -/
theorem repeatDue_of_skipped {b : Bank} {n : Slot} {s : State}
    (skipped : (s.slot n).acked = true ∨ s.covered n = true ∨ (s.slot n).fault.isSome = true) :
    repeatDue b n s = false := by
  obtain acked | covered | faulted := skipped
  · simp [repeatDue, acked]
  · simp [repeatDue, covered]
  · simp [repeatDue, Option.isNone_eq_false_iff.mpr faulted]

/-- Settles O6: the record by the least advance, the entry by the standing alert. -/
theorem repeatRaisesAndAdvancesItsDeadline : Obligations.RepeatRaisesAndAdvancesItsDeadline := by
  unfold Obligations.RepeatRaisesAndAdvancesItsDeadline
  intro n s
  refine ⟨fun d enabled mode short unacked uncovered unfaulted deadline reach interval => ?_, fun skipped => ?_⟩
  · have due : repeatDue s.acting n s = true := by
      simp [repeatDue, enabled, mode, short, unacked, uncovered, unfaulted, deadline, reach]
    have positive : 0 < (s.acting.cfg n).interval.toNat :=
      Nat.pos_of_ne_zero fun zero => interval (BitVec.eq_of_toNat_eq zero)
    obtain ⟨k, advanced, past, least⟩ := advanceDeadline_least positive (by omega) reach
    have record := repeatStep_slot s.acting n s
    rw [if_pos due, SlotLive.repeated, deadline, Option.map_some, advanced] at record
    have standing := standing_of_repeating (s.acting.cfg n).emptyAlert short
    rw [← mode] at standing
    refine ⟨repeatStep s.acting n s, k, rfl, repeatStep_onlySlot s.acting n s, record.eq, past, least, ?_⟩
    rintro kind rfl mask entry held room
    rw [repeatStep_entry due standing mask entry held room, stockEntry]
    split <;> rfl
  · exact congrArg Host.Outcome.next (if_neg (by rw [repeatDue_of_skipped skipped]; decide))

/-! ## Classification (Table 5-3) -/

/-- A count classified again from the state it produced gives that state (R76). -/
theorem classify_idempotent (p q c : Nat) (st : StockState) :
    classify p q c (classify p q c st) = classify p q c st := by
  by_cases zero : c = 0
  · simp [classify, zero]
  by_cases low : c ≤ p
  · simp [classify, zero, low]
  by_cases above : q < c
  · simp [classify, zero, low, above]
  cases st with
  | unknown | stocked | low | empty => simp [classify, zero, low, above, StockState.short]

/-- The rows of Table 5-3. -/
theorem classify_rows (p q c : Nat) (st : StockState) :
    (c = 0 → classify p q c st = .empty)
    ∧ (1 ≤ c → c ≤ p → classify p q c st = .low)
    ∧ (p ≤ q → q < c → classify p q c st = .stocked)
    ∧ (p < c → c ≤ q → (st = .low ∨ st = .empty) → classify p q c st = .low)
    ∧ (p < c → c ≤ q → (st = .stocked ∨ st = .unknown) → classify p q c st = .stocked) := by
  unfold classify
  refine ⟨fun zero => if_pos zero, fun units low => ?_, fun ordered above => ?_, fun above within short => ?_,
    fun above within long => ?_⟩
  · rw [if_neg (by omega), if_pos low]
  · rw [if_neg (by omega), if_neg (by omega), if_pos above]
  · rw [if_neg (by omega), if_neg (by omega), if_neg (by omega)]
    obtain rfl | rfl := short <;> rfl
  · rw [if_neg (by omega), if_neg (by omega), if_neg (by omega)]
    obtain rfl | rfl := long <;> rfl

/-! ## Transitions (Tables 5-6 and 5-7) -/

/-- The record after a transition, the changed fields as Table 5-7 and R103 give them. -/
theorem transit_eq {v : SlotLive} {new : StockState} (known : new ≠ .unknown) (fresh : Word) :
    v.transit new fresh = { v with
      stock := new
      acked := if v.stock = .empty ∧ new = .low then v.acked else false
      deadline := if new = .stocked then none
        else if v.stock = .empty ∧ new = .low then v.deadline else some fresh
      armed := if v.stock.short ∧ new = .stocked then true else v.armed } := by
  unfold SlotLive.transit ackedAfter deadlineAfter
  cases new with
  | unknown => exact absurd rfl known
  | stocked => cases v.stock <;> simp [StockState.short]
  | low => simp
  | empty => simp

/-- The alert of a transition between different states, in the words of Table 5-6. -/
theorem transitionAlert_eq (cfg : SlotCfg) {old new : StockState} (known : new ≠ .unknown) (changed : new ≠ old) :
    transitionAlert cfg old new =
      if new = .stocked then if old.short ∧ cfg.notify = true then some .recovered else none
      else if old = .empty then none
      else if new = .empty ∧ cfg.emptyAlert = true then some .empty
      else if old = .low ∨ cfg.mode = .off then none else some .low := by
  unfold transitionAlert standing
  cases new with
  | unknown => exact absurd rfl known
  | stocked => simp
  | low =>
    cases old with
    | low => exact absurd rfl changed
    | unknown | stocked | empty => simp [StockState.short]
  | empty =>
    cases old with
    | empty => exact absurd rfl changed
    | unknown | stocked | low => simp [StockState.short]

theorem transitionAlert_ne_fault {cfg : SlotCfg} {old new : StockState} {k : AlertKind}
    (h : transitionAlert cfg old new = some k) : k ≠ .fault := by
  rintro rfl
  cases new with
  | unknown => cases h
  | stocked => simp [transitionAlert] at h
  | low | empty =>
    unfold transitionAlert at h
    dsimp only at h
    split at h
    · simp at h
    · exact standing_ne_fault h rfl

section
variable {b : Bank} {n : Slot} {s : State} {new : StockState}

/-- The state in which a transition raises its alert. -/
def transited (b : Bank) (n : Slot) (new : StockState) (s : State) : State :=
  s.modSlot n fun v => v.transit new (freshDeadline b n s)

theorem transition_of_covered (covered : s.covered n = true) : transition b n new s = transited b n new s := by
  unfold transition
  dsimp only
  rw [State.covered_modSlot, covered]
  split <;> rfl

theorem transition_of_uncovered (uncovered : s.covered n = false) : transition b n new s =
    raiseStockIf b n (transitionAlert (b.cfg n) (s.slot n).stock new) (transited b n new s) := by
  unfold transition
  dsimp only
  rw [State.covered_modSlot, uncovered]
  split
  · next raised => rw [raised]; rfl
  · next silent => rw [silent]; rfl

theorem transited_held : ((transited b n new s).slot n).held = (s.slot n).held := by
  rw [transited, State.slot_modSlot_self, SlotLive.transit_held]

theorem stockEvaluate_of_same {c : Nat} (count : (s.slot n).count = some c)
    (same : classify (b.cfg n).reorder.toNat (b.cfg n).clear.toNat c (s.slot n).stock = (s.slot n).stock) :
    stockEvaluate b n s = s := by
  unfold stockEvaluate
  rw [count]
  exact if_pos same

theorem stockEvaluate_of_changed {c : Nat} (count : (s.slot n).count = some c)
    (changed : classify (b.cfg n).reorder.toNat (b.cfg n).clear.toNat c (s.slot n).stock ≠ (s.slot n).stock) :
    stockEvaluate b n s
      = transition b n (classify (b.cfg n).reorder.toNat (b.cfg n).clear.toNat c (s.slot n).stock) s := by
  unfold stockEvaluate
  rw [count]
  exact if_neg changed

end

/-- Settles O31: Table 5-3 by its rows, and a changed state by the one transition it makes. -/
theorem stockEvaluationFollowsTables53And57 : Obligations.StockEvaluationFollowsTables53And57 := by
  unfold Obligations.StockEvaluationFollowsTables53And57
  refine ⟨fun p q c st => ?_, fun b n s c count => ?_⟩
  · obtain ⟨empty, low, stocked, short, long⟩ := classify_rows p q c st
    exact ⟨empty, low, stocked, short, long, classify_idempotent p q c st⟩
  · have known := classify_ne_unknown (b.cfg n).reorder.toNat (b.cfg n).clear.toNat c (s.slot n).stock
    have record := stockEvaluate_slot b n s
    have changes := stockEvaluate_of_changed (b := b) count
    have stays := stockEvaluate_of_same (b := b) count
    rw [evaluated_of_count count] at record
    dsimp only
    generalize classify (b.cfg n).reorder.toNat (b.cfg n).clear.toNat c (s.slot n).stock = new at *
    refine ⟨stays, fun changed => ⟨stockEvaluate_onlySlot b n s, ?_⟩, fun covered => ?_, fun changed uncovered => ?_⟩
    · rw [if_neg changed, transit_eq known] at record
      exact record.eq
    · by_cases same : new = (s.slot n).stock
      · rw [stays same]
        exact ⟨rfl, rfl⟩
      · rw [changes same, transition_of_covered covered]
        exact ⟨rfl, transited_held⟩
    · rw [changes changed, transition_of_uncovered uncovered, ← transitionAlert_eq (b.cfg n) known changed]
      refine ⟨fun silent => by rw [silent]; rfl, fun k raised mask entry held room => ?_⟩
      rw [raised]
      refine (raiseStock_entry (s := transited b n new s) (transitionAlert_ne_fault raised) mask entry
        (transited_held.trans held) room).trans ?_
      rw [stockEntry, transited, State.slot_modSlot_self, SlotLive.transit_count, count]
      rfl

end Sys2Proof.Machine
end

section
/-!
PROOFS. Acknowledgement (O33): ACK_SLOT takes its slots one after the other, each acknowledged or denied by itself, and
the turns of the other slots bring an acknowledged slot no alert that its own turn withdrew (R89, R90, R130, R131).
-/

namespace Sys2Proof.Machine

/-! ## The kinds the alert queue holds of a slot -/

/-- A held-back slot has no queued entry, and every kind queued or held of slot `n` passes `p`. -/
structure KindsIn (p : AlertKind → Prop) (n : Slot) (s : State) : Prop where
  apart : HeldApart n s
  entry : ∀ e, s.entry (.slot n) = some e → p e.alert.kind
  held : ∀ k, (s.slot n).held = some k → p k

section
variable {p q : AlertKind → Prop} {n : Slot} {s t : State}

theorem KindsIn.mono (h : KindsIn p n s) (weaker : ∀ k, p k → q k) : KindsIn q n s :=
  ⟨h.apart, fun e entry => weaker _ (h.entry e entry), fun k held => weaker k (h.held k held)⟩

theorem KindsIn.of_empty (entry : s.entry (.slot n) = none) (held : (s.slot n).held = none) : KindsIn p n s where
  apart _ := entry
  entry e queued := by
    rw [entry] at queued
    cases queued
  held k kept := by
    rw [held] at kept
    cases kept

/-- Work beside a slot keeps the kinds of the slot: at most it is offered again with the kind it was held with. -/
theorem Beside.kindsIn (h : Beside n s t) (kinds : KindsIn p n s) : KindsIn p n t := by
  obtain ⟨apart, ⟨entry, held⟩ | ⟨e, held, entry, gone⟩⟩ := h kinds.apart
  · exact ⟨apart, entry ▸ kinds.entry, held ▸ kinds.held⟩
  · refine ⟨apart, fun e' queued => ?_, fun k kept => ?_⟩
    · rw [entry] at queued
      cases queued
      exact kinds.held _ held
    · rw [gone] at kept
      cases kept

theorem entry_mem {k : AlertKey} {e : AlertEntry} (queued : s.entry k = some e) : e ∈ s.alerts :=
  List.mem_of_find?_eq_some queued

theorem entry_key {k : AlertKey} {e : AlertEntry} (queued : s.entry k = some e) : e.alert.key = k := by
  have found := List.find?_some queued
  exact of_decide_eq_true found

/-- Between events no slot is queued or held back with LAPSED (R123, R125). -/
theorem AlertsOk.kindsIn (ok : AlertsOk s) (n : Slot) : KindsIn (· ≠ .lapsed) n s := by
  obtain ⟨⟨-, -, -, lapsed⟩, heldOk, -⟩ := ok
  refine ⟨fun held => ?_, fun e queued kind => ?_, fun k held => ?_⟩
  · obtain ⟨k, held⟩ := Option.ne_none_iff_exists'.mp held
    exact (heldOk n k held).2.1
  · obtain ⟨id, key⟩ := (lapsed e (entry_mem queued)).mp kind
    rw [entry_key queued] at key
    cases key
  · exact (heldOk n k held).1

/-- A withdrawn entry of a slot leaves nothing of the slot in the alert queue. -/
theorem withdraw_self {b : Bank} {e : AlertEntry} (apart : HeldApart n s) (queued : s.entry (.slot n) = some e) :
    (withdraw b (.slot n) s).entry (.slot n) = none ∧ ((withdraw b (.slot n) s).slot n).held = none := by
  have left : Beside n (s.setAlerts (without (.slot n) s.alerts)) (withdraw b (.slot n) s) := by
    unfold withdraw
    rw [queued]
    exact reoffer_beside b n _
  exact ⟨withdraw_entry b n s apart, (left.of_not_held (apart.free queued)).2⟩

/-- The withdrawal of the kinds that pass `w` leaves of the slot's kinds those that do not (Table 8-5). -/
theorem withdrawSlot_kindsIn (b : Bank) (w : AlertKind → Bool) (kinds : KindsIn p n s) :
    KindsIn (fun k => p k ∧ w k = false) n (withdrawSlot b n w s) := by
  unfold withdrawSlot
  cases queued : s.entry (.slot n) with
  | some e =>
    have free := kinds.apart.free queued
    dsimp only
    split
    · obtain ⟨gone, released⟩ := withdraw_self (b := b) kinds.apart queued
      rw [released]
      exact .of_empty gone released
    · next stays =>
      rw [free]
      refine ⟨kinds.apart, fun e' queued' => ?_, fun k held => ?_⟩
      · rw [show s.entry (.slot n) = some e' from queued'] at queued
        cases queued
        exact ⟨kinds.entry _ queued', Bool.eq_false_of_not_eq_true stays⟩
      · rw [show (s.slot n).held = some k from held] at free
        cases free
  | none =>
    dsimp only
    split
    · exact .of_empty queued (congrArg SlotLive.held (State.slot_modSlot_self s n _))
    · next stays =>
      refine ⟨kinds.apart, fun e queued' => ?_, fun k held => ⟨kinds.held k held, ?_⟩⟩
      · rw [queued] at queued'
        cases queued'
      · rw [held] at stays
        exact Bool.eq_false_of_not_eq_true stays

end

/-! ## One named slot -/

/-- One named slot of an ACK_SLOT, its status aside. -/
def ackSlot (src : Source) (s : State) (n : Slot) : State :=
  if s.zones.holds src .ack n then acknowledge s.acting n s else s.denial src codeAckSlot (some n)

/-- The status of one named slot (R89). -/
def ackStatus (z : Zones) (src : Source) (n : Slot) : Status := if z.holds src .ack n then .ok else .denied

/-- The record of an acknowledged slot (R90). -/
def SlotLive.acknowledged (v : SlotLive) : SlotLive := { v with acked := true, inspection := none }

/-- What an ACK_SLOT may change outside its request: slot records, the alert queue and the protection capture. -/
def AckFrame (s t : State) : Prop :=
  t = { s with
    alerts := t.alerts
    slots := t.slots
    zones := { s.zones with capture := t.zones.capture }
    mgmt := { s.mgmt with
      counters := { s.mgmt.counters with queueOverflow := t.mgmt.counters.queueOverflow } } }

theorem AckFrame.refl (s : State) : AckFrame s s := rfl

theorem AckFrame.trans {s t u : State} (h : AckFrame s t) (k : AckFrame t u) : AckFrame s u := by
  unfold AckFrame at *
  rw [h] at k
  exact k

theorem AckFrame.holds {s t : State} (h : AckFrame s t) (src : Source) (r : SlotRight) (n : Slot) :
    t.zones.holds src r n = s.zones.holds src r n := by
  rw [h]
  rfl

section
variable (src : Source) (s : State) (n : Slot)

theorem ackOne_eq (rs : List Status) :
    ackOne src (s, rs) n = (ackSlot src s n, rs ++ [ackStatus s.zones src n]) := by
  unfold ackOne ackSlot ackStatus
  dsimp only
  split <;> rfl

theorem ackSlot_frame : AckFrame s (ackSlot src s n) := by
  unfold ackSlot
  split
  · obtain ⟨frame, -⟩ := acknowledge_onlySlot s.acting n s
    unfold AckFrame
    rw [frame]
  · rfl

theorem acknowledge_acts (b : Bank) : SlotActs b n s (acknowledge b n s) :=
  (modSlot_acts b n s (f := SlotLive.acknowledged) fun _ => rfl).tail (.withdraw _ _)

theorem acknowledge_slot (b : Bank) : SameButHeld (s.slot n).acknowledged ((acknowledge b n s).slot n) := by
  have withdrawn := (withdrawSlot_onlyAlerts b n AlertKind.acknowledged (s.modSlot n SlotLive.acknowledged)).slot n
  rw [State.slot_modSlot_self] at withdrawn
  exact withdrawn

variable {src s n}

/-- Acknowledging a slot leaves it only alerts that an acknowledgement does not withdraw (R90). -/
theorem acknowledge_kindsIn {p : AlertKind → Prop} (b : Bank) (kinds : KindsIn p n s) :
    KindsIn (fun k => p k ∧ k.acknowledged = false) n (acknowledge b n s) := by
  have held : ((s.modSlot n SlotLive.acknowledged).slot n).held = (s.slot n).held := by
    rw [State.slot_modSlot_self]
    rfl
  refine withdrawSlot_kindsIn b AlertKind.acknowledged (s := s.modSlot n SlotLive.acknowledged) ⟨?_, kinds.entry, ?_⟩
  · intro kept
    exact kinds.apart (held ▸ kept)
  · rw [held]
    exact kinds.held

theorem ackSlot_granted (may : s.zones.holds src .ack n = true) : ackSlot src s n = acknowledge s.acting n s :=
  if_pos may

theorem ackSlot_denied (mayNot : s.zones.holds src .ack n = false) :
    ackSlot src s n = s.denial src codeAckSlot (some n) := if_neg (by rw [mayNot]; decide)

theorem ackSlot_others {m : Slot} (h : m ≠ n) : SameButHeld (s.slot m) ((ackSlot src s n).slot m) := by
  unfold ackSlot
  split
  · exact (acknowledge_onlySlot s.acting n s).2 m h
  · exact .refl _

/-- The turn of any slot keeps the kinds of slot `m` within bounds. -/
theorem ackSlot_kindsIn {p : AlertKind → Prop} {m : Slot} (kinds : KindsIn p m s) : KindsIn p m (ackSlot src s n) := by
  unfold ackSlot
  split
  · by_cases here : m = n
    · subst here
      exact (acknowledge_kindsIn s.acting kinds).mono fun _ h => h.1
    · exact ((acknowledge_acts s n s.acting).beside here).kindsIn kinds
  · exact ⟨kinds.apart, kinds.entry, kinds.held⟩

end

/-! ## The slots in their order -/

/-- The state after the named slots of an ACK_SLOT. -/
def ackSlots (src : Source) (ns : List Slot) (s : State) : State := ns.foldl (ackSlot src) s

section
variable (src : Source)

theorem ackSlots_frame (ns : List Slot) (s : State) : AckFrame s (ackSlots src ns s) := by
  induction ns generalizing s with
  | nil => exact .refl s
  | cons n ns ih => exact (ackSlot_frame src s n).trans (ih _)

theorem foldl_ackOne (ns : List Slot) (s : State) (rs : List Status) :
    ns.foldl (ackOne src) (s, rs) = (ackSlots src ns s, rs ++ ns.map (ackStatus s.zones src)) := by
  induction ns generalizing s rs with
  | nil => exact congrArg (Prod.mk s) (List.append_nil rs).symm
  | cons n ns ih =>
    have same : ackStatus (ackSlot src s n).zones src = ackStatus s.zones src := by
      funext m
      unfold ackStatus
      rw [(ackSlot_frame src s n).holds]
    rw [List.foldl_cons, ackOne_eq, ih, same, List.append_assoc]
    rfl

/-- Slots that are all granted leave the protection capture alone. -/
theorem ackSlots_zones {ns : List Slot} {s : State} (may : ∀ n ∈ ns, s.zones.holds src .ack n = true) :
    (ackSlots src ns s).zones = s.zones := by
  induction ns generalizing s with
  | nil => rfl
  | cons n ns ih =>
    rw [List.forall_mem_cons] at may
    obtain ⟨own, rest⟩ := may
    have turn : (ackSlot src s n).zones = s.zones := by
      rw [ackSlot_granted own]
      exact (acknowledge_onlySlot s.acting n s).zones
    exact (ih (turn ▸ rest)).trans turn

/-- A slot that is not named, or is denied, keeps its record. -/
theorem ackSlots_record_of_denied {ns : List Slot} {s : State} {m : Slot}
    (mayNot : m ∈ ns → s.zones.holds src .ack m = false) : SameButHeld (s.slot m) ((ackSlots src ns s).slot m) := by
  induction ns generalizing s with
  | nil => exact .refl _
  | cons n ns ih =>
    have turn : SameButHeld (s.slot m) ((ackSlot src s n).slot m) := by
      by_cases here : m = n
      · subst here
        rw [ackSlot_denied (mayNot List.mem_cons_self)]
        exact .refl _
      · exact ackSlot_others here
    exact turn.trans (ih fun later => by
      rw [(ackSlot_frame src s n).holds]
      exact mayNot (List.mem_cons_of_mem n later))

theorem ackSlots_record_of_acknowledged (ns : List Slot) {s : State} {m : Slot} {v : SlotLive}
    (before : SameButHeld v.acknowledged (s.slot m)) : SameButHeld v.acknowledged ((ackSlots src ns s).slot m) := by
  induction ns generalizing s with
  | nil => exact before
  | cons n ns ih =>
    refine ih ?_
    by_cases here : m = n
    · subst here
      unfold ackSlot
      split
      · exact (before.map (f := SlotLive.acknowledged) fun _ _ => rfl).trans (acknowledge_slot s m s.acting)
      · exact before
    · exact before.trans (ackSlot_others here)

/-- A named slot that is granted ends acknowledged (R90). -/
theorem ackSlots_record_of_granted {ns : List Slot} {s : State} {m : Slot} (named : m ∈ ns)
    (may : s.zones.holds src .ack m = true) :
    SameButHeld (s.slot m).acknowledged ((ackSlots src ns s).slot m) := by
  induction ns generalizing s with
  | nil => cases named
  | cons n ns ih =>
    by_cases here : m = n
    · subst here
      refine ackSlots_record_of_acknowledged src ns ?_
      rw [ackSlot_granted may]
      exact acknowledge_slot s m s.acting
    · have turn : SameButHeld (s.slot m) ((ackSlot src s n).slot m) := ackSlot_others here
      have rest := ih (s := ackSlot src s n) ((List.mem_cons.mp named).resolve_left here)
        (by rw [(ackSlot_frame src s n).holds]; exact may)
      exact (turn.map fun _ _ => rfl).trans rest

theorem ackSlots_kindsIn {p : AlertKind → Prop} {m : Slot} (ns : List Slot) {s : State} (kinds : KindsIn p m s) :
    KindsIn p m (ackSlots src ns s) := by
  induction ns generalizing s with
  | nil => exact kinds
  | cons n ns ih => exact ih (ackSlot_kindsIn kinds)

/-- A named slot that is granted has nothing left that an acknowledgement withdraws (R90). -/
theorem ackSlots_kindsIn_of_granted {p : AlertKind → Prop} {ns : List Slot} {s : State} {m : Slot} (named : m ∈ ns)
    (may : s.zones.holds src .ack m = true) (kinds : KindsIn p m s) :
    KindsIn (fun k => p k ∧ k.acknowledged = false) m (ackSlots src ns s) := by
  induction ns generalizing s with
  | nil => cases named
  | cons n ns ih =>
    by_cases here : m = n
    · subst here
      refine ackSlots_kindsIn src ns ?_
      rw [ackSlot_granted may]
      exact acknowledge_kindsIn s.acting kinds
    · exact ih ((List.mem_cons.mp named).resolve_left here)
        (by rw [(ackSlot_frame src s n).holds]; exact may) (ackSlot_kindsIn kinds)

end

/-! ## ACK_SLOT -/

/-- ACK_SLOT with one to eight slots: the statuses by the rights, the state by the turns. -/
theorem ackRequest_eq (src : Source) {args : List Byte} (some : args ≠ []) (few : args.length ≤ 8) (s : State) :
    ackRequest src args s =
      { status := if args.all fun a => s.zones.holds src .ack (slotOfByte a) then .ok else .denied
        results := args.map fun a => if s.zones.holds src .ack (slotOfByte a) then 0 else 5
        state := ackSlots src (args.map slotOfByte) s } := by
  have shape : ¬ (args.length = 0 ∨ 8 < args.length) := by
    rintro (none | many)
    · exact some (List.length_eq_zero_iff.mp none)
    · omega
  have granted : ∀ a, decide (ackStatus s.zones src (slotOfByte a) = .ok)
      = s.zones.holds src .ack (slotOfByte a) := by
    intro a
    unfold ackStatus
    split
    · next may => rw [may]; rfl
    · next mayNot => rw [Bool.eq_false_of_not_eq_true mayNot]; rfl
  have coded : ∀ a, (ackStatus s.zones src (slotOfByte a)).code
      = if s.zones.holds src .ack (slotOfByte a) then 0 else 5 := by
    intro a
    unfold ackStatus
    split <;> rfl
  unfold ackRequest
  rw [if_neg shape, foldl_ackOne, List.nil_append]
  simp only [List.map_map, List.all_map, Function.comp_def, granted, coded]

/-- Settles O33: each slot's record and kinds by its own turn, which the other turns leave alone. -/
theorem ackSlotAcknowledgesEachGrantedSlot : Obligations.AckSlotAcknowledgesEachGrantedSlot := by
  unfold Obligations.AckSlotAcknowledgesEachGrantedSlot
  intro s f src args h
  refine ⟨fun misshapen => ?_, fun some few => ?_⟩
  · refine congrArg Host.Outcome.next (takeRequest_plain h (if_pos ?_))
    exact misshapen.imp_left List.length_eq_zero_iff.mpr
  · have frame := ackSlots_frame src (args.map slotOfByte) s.dropRequest
    have request := ackRequest_eq src some few s.dropRequest
    refine ⟨_, congrArg Host.Outcome.next (takeRequest_answer h request), ⟨?_, rfl⟩,
      fun a named may => ⟨?_, fun ok k left => ?_⟩, fun n mayNot => ?_, fun all => ?_, ?_⟩
    · exact (congrArg (fun u : State => u.mgmt.requests) frame :)
    · exact (ackSlots_record_of_granted src (s := s.dropRequest) (List.mem_map_of_mem named) may).eq
    · obtain ⟨apart, entry, held⟩ := ok.kindsIn (slotOfByte a)
      have kinds := ackSlots_kindsIn_of_granted src (p := (· ≠ .lapsed)) (s := s.dropRequest)
        (List.mem_map_of_mem named) may ⟨apart, entry, held⟩
      have kept : k ≠ .lapsed ∧ k.acknowledged = false := by
        obtain ⟨e, queued, rfl⟩ | held := left
        · exact kinds.entry e queued
        · exact kinds.held k held
      obtain ⟨slotKind, kept⟩ := kept
      cases k with
      | fault => exact .inl rfl
      | recovered => exact .inr rfl
      | lapsed => exact absurd rfl slotKind
      | low | empty | forecast | inspect => cases kept
    · refine ackSlots_record_of_denied src (s := s.dropRequest) fun mapped => ?_
      obtain ⟨a, named, rfl⟩ := List.mem_map.mp mapped
      exact mayNot a named rfl
    · refine ackSlots_zones src fun n mapped => ?_
      obtain ⟨a, named, rfl⟩ := List.mem_map.mp mapped
      exact List.all_eq_true.mp all a named
    · exact ⟨(congrArg State.store frame :), (congrArg State.chans frame :), (congrArg State.trunk frame :),
        (congrArg State.link frame :), (congrArg State.time frame :), (congrArg State.sessions frame :)⟩

end Sys2Proof.Machine
end

section
/-!
SUPPORT. What enters the alert queue and what stays in it: the entry of a session while work is done for slots, and the
kinds that a raised alert can bring in (R126 to R131).
-/

namespace Sys2Proof.Machine

/-! ## The entry of a session while work is done for slots -/

section
variable {b : Bank} {id : SessionId} {s : State}

theorem reoffer_session_entry : (reoffer b s).entry (.session id) = s.entry (.session id) := by
  unfold reoffer
  split
  · rfl
  · split
    · rfl
    · exact entryIn_joinTail_ne (k := .session id) (e := ⟨reofferAlert b _ _ s, _⟩) nofun s.alerts

theorem withdraw_session_entry (n : Slot) : (withdraw b (.slot n) s).entry (.session id) = s.entry (.session id) := by
  unfold withdraw
  split
  · rfl
  · exact reoffer_session_entry.trans (entryIn_without_ne (k := .session id) (j := .slot n) nofun s.alerts)

theorem withdrawSlot_session_entry (n : Slot) (p : AlertKind → Bool) :
    (withdrawSlot b n p s).entry (.session id) = s.entry (.session id) := by
  have release : ∀ t : State, (if (t.slot n).held.any p then t.modSlot n fun v => { v with held := none } else t).entry
      (.session id) = t.entry (.session id) := by
    intro t
    split <;> rfl
  unfold withdrawSlot
  rw [release]
  split
  · split
    · exact withdraw_session_entry n
    · rfl
  · rfl

/-- An alert of a slot leaves the entries of the sessions alone. -/
theorem raiseAlert_session_entry {a : Alert} {n : Slot} (key : a.key = .slot n) :
    (raiseAlert b a s).entry (.session id) = s.entry (.session id) := by
  have apart : a.key ≠ .session id := by
    rw [key]
    nofun
  have merged : ∀ e, (merge b a e s).entry (.session id) = s.entry (.session id) := by
    intro e
    unfold merge
    split
    · rw [key]
      exact withdraw_session_entry n
    · split
      · dsimp only
        split
        · exact entryIn_replace_ne (e := ⟨a, _⟩) apart _
        · exact (entryIn_joinTail_ne (e := ⟨a, _⟩) apart _).trans (entryIn_without_ne apart _)
      · rfl
  have placed : (place b a s).entry (.session id) = s.entry (.session id) := by
    unfold place
    rw [key]
    split
    · exact entryIn_joinTail_ne (e := ⟨a, _⟩) apart _
    · rfl
  unfold raiseAlert raiseNew
  rw [key]
  dsimp only
  split
  · rfl
  · split
    · exact merged _
    · split
      · rfl
      · exact placed

/-- The slot engine's work for one slot leaves the entries of the sessions alone. -/
theorem SlotActs.session_entry {n : Slot} {t : State} (acts : SlotActs b n s t) :
    t.entry (.session id) = s.entry (.session id) := by
  induction acts with
  | refl => rfl
  | tail _ act ih =>
    refine Eq.trans ?_ ih
    cases act with
    | write => rfl
    | raise a key => exact raiseAlert_session_entry key
    | withdraw p => exact withdrawSlot_session_entry n p
    | leave =>
      obtain ⟨l, p, left⟩ := leaveMotion_eq b n _
      rw [left]
      rfl

end

/-! ## The kinds that come into the queue -/

/-- Every held kind passes `p`. -/
def HeldKindsIn (p : AlertKind → Prop) (s : State) : Prop := ∀ n k, (s.slot n).held = some k → p k

/-- From held kinds that pass `p`, only kinds that pass `p` are held back or come into the queue. -/
def BringsOnly (p : AlertKind → Prop) (s t : State) : Prop :=
  HeldKindsIn p s → HeldKindsIn p t ∧ ∀ e ∈ t.alerts, e ∈ s.alerts ∨ p e.alert.kind

theorem mem_joinTail {x e : AlertEntry} {q : List AlertEntry} (h : x ∈ joinTail e q) : x = e ∨ x ∈ q := by
  obtain ⟨l, r, split, join⟩ := joinTail_eq e q
  rw [join, List.mem_append, List.mem_cons] at h
  rw [split, List.mem_append]
  tauto

section
variable {p : AlertKind → Prop} {s t u : State}

theorem BringsOnly.refl (p : AlertKind → Prop) (s : State) : BringsOnly p s s := fun kinds =>
  ⟨kinds, fun _ => .inl⟩

theorem BringsOnly.trans (h : BringsOnly p s t) (k : BringsOnly p t u) : BringsOnly p s u := by
  intro kinds
  obtain ⟨kinds, first⟩ := h kinds
  obtain ⟨kinds, second⟩ := k kinds
  exact ⟨kinds, fun e he => (second e he).elim (first e) .inr⟩

theorem setAlerts_bringsOnly {q : List AlertEntry} (h : ∀ e ∈ q, e ∈ s.alerts ∨ p e.alert.kind) :
    BringsOnly p s (s.setAlerts q) := fun kinds => ⟨kinds, h⟩

/-- A record written with a held kind that was there, or passes `p`. -/
theorem modSlot_bringsOnly {n : Slot} {f : SlotLive → SlotLive}
    (h : ∀ k, (f (s.slot n)).held = some k → (s.slot n).held = some k ∨ p k) : BringsOnly p s (s.modSlot n f) := by
  intro kinds
  refine ⟨fun m k held => ?_, fun _ => .inl⟩
  rw [State.slot_modSlot] at held
  split at held
  · exact (h k held).elim (kinds n k) id
  · exact kinds m k held

theorem reoffer_bringsOnly (b : Bank) : BringsOnly p s (reoffer b s) := by
  unfold reoffer
  split
  · exact .refl p s
  · next n _ =>
    split
    · exact .refl p s
    · next kind held =>
      intro kinds
      have offered : BringsOnly p s (s.enqueue b (reofferAlert b n kind s)) := setAlerts_bringsOnly fun e he =>
        (mem_joinTail he).elim (fun own => .inr (own ▸ kinds n kind held)) .inl
      exact offered.trans (modSlot_bringsOnly nofun) kinds

theorem withdraw_bringsOnly (b : Bank) (k : AlertKey) : BringsOnly p s (withdraw b k s) := by
  unfold withdraw
  split
  · exact .refl p s
  · have left : BringsOnly p s (s.setAlerts (without k s.alerts)) :=
      setAlerts_bringsOnly fun e he => .inl (List.mem_of_mem_filter he)
    exact left.trans (reoffer_bringsOnly b)

theorem merge_bringsOnly (b : Bank) {a : Alert} (kind : p a.kind) (e : AlertEntry) : BringsOnly p s (merge b a e s) := by
  unfold merge
  split
  · exact withdraw_bringsOnly b a.key
  · split
    · dsimp only
      split
      · refine setAlerts_bringsOnly fun x hx => ?_
        obtain ⟨y, hy, rfl⟩ := List.mem_map.mp hx
        split
        · exact .inr kind
        · exact .inl hy
      · exact setAlerts_bringsOnly fun x hx =>
          (mem_joinTail hx).elim (fun own => .inr (own ▸ kind)) fun kept => .inl (List.mem_of_mem_filter kept)
    · exact .refl p s

theorem place_bringsOnly (b : Bank) {a : Alert} (kind : p a.kind) : BringsOnly p s (place b a s) := by
  unfold place
  split
  · exact setAlerts_bringsOnly fun e he => (mem_joinTail he).elim (fun own => .inr (own ▸ kind)) .inl
  · have counted : BringsOnly p s (s.modCounters fun c =>
        { c with queueOverflow := satInc Config.counterMax c.queueOverflow }) := fun kinds => ⟨kinds, fun _ => .inl⟩
    dsimp only
    split
    · exact counted.trans (modSlot_bringsOnly fun k held => .inr (Option.some.inj held ▸ kind))
    · exact counted

theorem heldAfter_eq_some {h k j : AlertKind} (after : heldAfter h k = some j) : j = h ∨ j = k := by
  unfold heldAfter at after
  split at after
  · cases after
  · split at after
    · exact .inr (Option.some.inj after).symm
    · exact .inl (Option.some.inj after).symm

/-- Raising an alert brings in its own kind, and kinds that were held back. -/
theorem raiseAlert_bringsOnly (b : Bank) {a : Alert} (kind : p a.kind) : BringsOnly p s (raiseAlert b a s) := by
  unfold raiseAlert
  split
  · exact .refl p s
  · split
    · exact merge_bringsOnly b kind _
    · unfold raiseNew
      split
      · split
        · next held =>
          refine modSlot_bringsOnly fun k after => ?_
          obtain rfl | rfl := heldAfter_eq_some after
          · exact .inl held
          · exact .inr kind
        · exact place_bringsOnly b kind
      · exact place_bringsOnly b kind

end

end Sys2Proof.Machine
end

section
/-!
PROOFS. The close of a session: what each slot of its range raises, how far that grows the queue, and what the close
leaves alone. Settles O7 (an expiry) and O35 (a CLOSE_RESTOCK).
-/

namespace Sys2Proof.Machine

/-! ## The alert of one slot -/

/-- Work for a slot that the alert queue sees nothing of, and that keeps the slot's count. -/
structure QuietWork (b : Bank) (n : Slot) (s t : State) : Prop where
  acts : SlotActs b n s t
  alerts : t.alerts = s.alerts
  mask : t.mgmt.mask = s.mgmt.mask
  now : t.now = s.now
  held : (t.slot n).held = (s.slot n).held
  count : (t.slot n).count = (s.slot n).count
  others : ∀ m, m ≠ n → t.slot m = s.slot m

theorem QuietWork.refl (b : Bank) (n : Slot) (s : State) : QuietWork b n s s := 
  ⟨.refl, rfl, rfl, rfl, rfl, rfl, fun _ _ => rfl⟩

theorem QuietWork.trans {b : Bank} {n : Slot} {s t u : State} (h : QuietWork b n s t) (k : QuietWork b n t u) :
    QuietWork b n s u :=
  ⟨h.acts.trans k.acts, k.alerts.trans h.alerts, k.mask.trans h.mask, k.now.trans h.now, k.held.trans h.held,
    k.count.trans h.count, fun m hm => (k.others m hm).trans (h.others m hm)⟩

theorem QuietWork.entry {b : Bank} {n : Slot} {s t : State} (h : QuietWork b n s t) (k : AlertKey) :
    t.entry k = s.entry k := by
  unfold State.entry
  rw [h.alerts]

theorem modSlot_quietWork (b : Bank) (n : Slot) (s : State) {f : SlotLive → SlotLive}
    (held : ∀ v, (f v).held = v.held) (count : ∀ v, (f v).count = v.count) : QuietWork b n s (s.modSlot n f) where
  acts := modSlot_acts b n s held
  alerts := rfl
  mask := rfl
  now := rfl
  held := by rw [State.slot_modSlot_self, held]
  count := by rw [State.slot_modSlot_self, count]
  others _ hm := State.slot_modSlot_ne s hm f

theorem QuietWork.bringsOnly {b : Bank} {n : Slot} {s t : State} (p : AlertKind → Prop) (h : QuietWork b n s t) :
    BringsOnly p s t := by
  intro kinds
  refine ⟨fun m k held => ?_, fun e he => .inl (h.alerts ▸ he)⟩
  by_cases here : m = n
  · subst here
    exact kinds m k (h.held ▸ held)
  · exact kinds m k (h.others m here ▸ held)

/-- The close of a short slot that is enabled raises its standing alert (R79, R118). -/
theorem closeAlert_of_short {cfg : SlotCfg} {v : SlotLive} (enabled : cfg.enabled = true)
    (short : v.stock.short = true) : v.closeAlert cfg = standing cfg.mode cfg.emptyAlert v.stock := by
  unfold SlotLive.closeAlert standing
  rw [if_neg (by rw [enabled]; decide)]
  cases stock : v.stock with
  | unknown | stocked => simp [stock, StockState.short] at short
  | low | empty => rfl

theorem closeAlert_congr {cfg : SlotCfg} {v w : SlotLive} (same : SameButHeld v w) :
    w.closeAlert cfg = v.closeAlert cfg := by
  unfold SlotLive.closeAlert
  rw [same.stock, same.deficit]

theorem SameButHeld.closed {v w : SlotLive} (same : SameButHeld v w) (cfg : SlotCfg) (minute : Word) :
    SameButHeld (v.closed cfg minute) (w.closed cfg minute) :=
  same.map (f := fun v => v.closed cfg minute) (closed_held cfg minute)

/-- No close raises FAULT or LAPSED. -/
theorem closeAlert_kind {cfg : SlotCfg} {v : SlotLive} {k : AlertKind} (h : v.closeAlert cfg = some k) :
    k ≠ .fault ∧ k ≠ .lapsed := by
  unfold SlotLive.closeAlert at h
  repeat' split at h
  all_goals cases h
  all_goals exact ⟨nofun, nofun⟩

section
variable (b : Bank) (n : Slot) (s : State)

/-- A slot that is not short is re-evaluated by raising its alert, if it has one (R118). -/
theorem reevaluate_of_long (long : (b.cfg n).enabled = true → (s.slot n).stock.short = false) :
    reevaluate b n s = raiseStockIf b n ((s.slot n).closeAlert (b.cfg n)) s := by
  unfold reevaluate SlotLive.closeAlert
  dsimp only
  split
  · rfl
  · next enabled =>
    have long := long (Bool.eq_true_of_not_eq_false enabled)
    cases stock : (s.slot n).stock with
    | unknown => rfl
    | stocked =>
      dsimp only
      split <;> rfl
    | low | empty => simp [stock, StockState.short] at long

/-- The state in which the standing alert of a short slot is raised at a close: it is no longer acknowledged. -/
def unackedState : State := s.modSlot n fun v => { v with acked := false }

/-- A short slot loses its acknowledgement, raises its standing alert and starts its deadline afresh (R118). -/
theorem reevaluate_of_short (enabled : (b.cfg n).enabled = true) (short : (s.slot n).stock.short = true) :
    let u := raiseStockIf b n ((s.slot n).closeAlert (b.cfg n)) (unackedState n s)
    reevaluate b n s = u.modSlot n fun v => { v with deadline := some (freshDeadline b n u) } := by
  rw [closeAlert_of_short enabled short]
  unfold reevaluate
  dsimp only
  rw [if_neg (by rw [enabled]; decide)]
  cases stock : (s.slot n).stock with
  | unknown | stocked => simp [stock, StockState.short] at short
  | low | empty =>
    dsimp only
    split
    · next raised => rw [raised]; rfl
    · next silent => rw [silent]; rfl

/-- The close of a slot is the raising of its alert between writes to its record (R117, R118). -/
theorem closeSlot_raises : ∃ u, QuietWork b n s u
    ∧ QuietWork b n (raiseStockIf b n ((s.slot n).closeAlert (b.cfg n)) u) (closeSlot b n s) := by
  have clears : QuietWork b n (reevaluate b n s) (closeSlot b n s) :=
    modSlot_quietWork b n _ (fun _ => rfl) fun _ => rfl
  by_cases short : (b.cfg n).enabled = true ∧ (s.slot n).stock.short = true
  · have renews := modSlot_quietWork b n (raiseStockIf b n ((s.slot n).closeAlert (b.cfg n)) (unackedState n s))
      (f := fun v => { v with deadline := some (freshDeadline b n
        (raiseStockIf b n ((s.slot n).closeAlert (b.cfg n)) (unackedState n s))) }) (fun _ => rfl) fun _ => rfl
    rw [← reevaluate_of_short b n s short.1 short.2] at renews
    exact ⟨unackedState n s, modSlot_quietWork b n s (fun _ => rfl) fun _ => rfl, renews.trans clears⟩
  · rw [reevaluate_of_long b n s fun enabled => Bool.eq_false_of_not_eq_true fun h => short ⟨enabled, h⟩] at clears
    exact ⟨s, .refl b n s, clears⟩

theorem raiseStockIf_acts (kind : Option AlertKind) : SlotActs b n s (raiseStockIf b n kind s) := by
  cases kind with
  | none => exact .refl
  | some k => exact .single (.raise s _ rfl)

theorem closeSlot_acts : SlotActs b n s (closeSlot b n s) := by
  obtain ⟨u, before, after⟩ := closeSlot_raises b n s
  exact (before.acts.trans (raiseStockIf_acts b n u _)).trans after.acts

/-- A slot that raises an alert at a close grows the queue by one entry at most, another slot by none. -/
theorem closeSlot_length_le : (closeSlot b n s).alerts.length
    ≤ s.alerts.length + if ((s.slot n).closeAlert (b.cfg n)).isSome then 1 else 0 := by
  obtain ⟨u, before, after⟩ := closeSlot_raises b n s
  rw [after.alerts, ← before.alerts]
  cases (s.slot n).closeAlert (b.cfg n) with
  | none => exact le_rfl
  | some k => exact raiseAlert_length_le b _ u

/-- No close of a slot brings in LAPSED (R121). -/
theorem closeSlot_bringsOnly : BringsOnly (· ≠ .lapsed) s (closeSlot b n s) := by
  obtain ⟨u, before, after⟩ := closeSlot_raises b n s
  refine ((before.bringsOnly _).trans ?_).trans (after.bringsOnly _)
  cases raised : (s.slot n).closeAlert (b.cfg n) with
  | none => exact .refl _ u
  | some k => exact raiseAlert_bringsOnly b (closeAlert_kind raised).2

variable {b n s}

/-- A slot of which nothing waits gets the alert of its close queued, where there is room (R118). -/
theorem closeSlot_entry {k : AlertKind} (raised : (s.slot n).closeAlert (b.cfg n) = some k)
    (mask : maskHas s.mgmt.mask k = false) (entry : s.entry (.slot n) = none) (held : (s.slot n).held = none)
    (room : s.alerts.length < 64) :
    (closeSlot b n s).entry (.slot n) = some (stockEntry b n k s) ∧ ((closeSlot b n s).slot n).held = none := by
  obtain ⟨u, before, after⟩ := closeSlot_raises b n s
  rw [raised] at after
  rw [← before.mask] at mask
  rw [← before.entry] at entry
  rw [← before.held] at held
  rw [← before.alerts] at room
  rw [after.entry, after.held]
  refine ⟨(raiseStock_entry (closeAlert_kind raised).1 mask entry held room).trans ?_,
    raiseStock_held mask entry held room⟩
  unfold stockEntry
  rw [before.count, before.now]

/-- A slot without an alert at the close keeps its part of the alert queue. -/
theorem closeSlot_silent (silent : (s.slot n).closeAlert (b.cfg n) = none) :
    (closeSlot b n s).entry (.slot n) = s.entry (.slot n) ∧ ((closeSlot b n s).slot n).held = (s.slot n).held := by
  obtain ⟨u, before, after⟩ := closeSlot_raises b n s
  rw [silent] at after
  exact ⟨(after.entry _).trans (before.entry _), after.held.trans before.held⟩

end

/-! ## The slots of the range in turn -/

/-- The re-evaluation of slots at a close, one after the other (R117). -/
def closeSlots (b : Bank) (ns : List Slot) (s : State) : State := ns.foldl (fun s n => closeSlot b n s) s

/-- The slot raises an alert at a close. -/
def closeRaises (b : Bank) (s : State) (n : Slot) : Bool := ((s.slot n).closeAlert (b.cfg n)).isSome

/-- A slot's turn in a list that names no slot twice. -/
theorem split_of_mem_nodup {ns : List Slot} {n : Slot} (once : ns.Nodup) (here : n ∈ ns) :
    ∃ l r, ns = l ++ n :: r ∧ l.Nodup ∧ n ∉ l ∧ n ∉ r := by
  obtain ⟨l, r, rfl⟩ := List.append_of_mem here
  obtain ⟨onceL, onceR, apart⟩ := List.nodup_append.mp once
  exact ⟨l, r, rfl, onceL, fun h => apart n h n List.mem_cons_self rfl, (List.nodup_cons.mp onceR).1⟩

section
variable {b : Bank} {ns : List Slot} {s : State}

theorem closeSlots_append (b : Bank) (l r : List Slot) (s : State) :
    closeSlots b (l ++ r) s = closeSlots b r (closeSlots b l s) := List.foldl_append

theorem closeSlots_cons (b : Bank) (n : Slot) (ns : List Slot) (s : State) :
    closeSlots b (n :: ns) s = closeSlots b ns (closeSlot b n s) := rfl

theorem closeSlots_beside {n : Slot} (aside : n ∉ ns) (s : State) : Beside n s (closeSlots b ns s) :=
  foldl_beside _ b (fun s m => closeSlot_acts b m s) aside s

theorem closeSlots_aside {n : Slot} (aside : n ∉ ns) (s : State) :
    SameButHeld (s.slot n) ((closeSlots b ns s).slot n) :=
  foldl_visits_not_mem _ (fun s m => (closeSlot_onlySlot b m s).visit) aside s

theorem closeSlots_session_entry (id : SessionId) :
    (closeSlots b ns s).entry (.session id) = s.entry (.session id) := by
  induction ns generalizing s with
  | nil => rfl
  | cons n ns ih => exact ih.trans (closeSlot_acts b n s).session_entry

theorem closeSlots_bringsOnly (b : Bank) (ns : List Slot) (s : State) :
    BringsOnly (· ≠ .lapsed) s (closeSlots b ns s) := by
  induction ns generalizing s with
  | nil => exact .refl _ s
  | cons n ns ih => exact (closeSlot_bringsOnly b n s).trans (ih _)

/-- The slots of a list grow the queue by one entry at most for each that raises an alert. -/
theorem closeSlots_length_le (once : ns.Nodup) :
    (closeSlots b ns s).alerts.length ≤ s.alerts.length + ns.countP (closeRaises b s) := by
  induction ns generalizing s with
  | nil => exact le_rfl
  | cons n ns ih =>
    rw [List.nodup_cons] at once
    obtain ⟨new, once⟩ := once
    have others : ns.countP (closeRaises b (closeSlot b n s)) = ns.countP (closeRaises b s) :=
      List.countP_congr fun m hm => by
        unfold closeRaises
        rw [closeAlert_congr ((closeSlot_onlySlot b n s).2 m fun e => new (e ▸ hm))]
    have rest := ih (s := closeSlot b n s) once
    have turn : (closeSlot b n s).alerts.length ≤ s.alerts.length + if closeRaises b s n then 1 else 0 :=
      closeSlot_length_le b n s
    rw [closeSlots_cons, List.countP_cons]
    omega

/-- The record of a slot after the close, its held-back flag aside (R117, R118). -/
theorem closeSlots_slot (once : ns.Nodup) (n : Slot) :
    SameButHeld (if n ∈ ns then (s.slot n).closed (b.cfg n) s.minute else s.slot n) ((closeSlots b ns s).slot n) := by
  split
  · next here =>
    obtain ⟨u, frame, before, after⟩ := foldl_visits_mem (fun s n => closeSlot b n s)
      (fun s n => (closeSlot_onlySlot b n s).visit) once here s
    have own := closeSlot_slot b n u
    rw [frame.minute] at own
    exact ((before.closed (b.cfg n) s.minute).trans own).trans after
  · next aside => exact closeSlots_aside aside s

variable {n : Slot}

/-- With room for what all slots raise, a slot of which nothing waits gets its alert queued. -/
theorem closeSlots_entry {k : AlertKind} (once : ns.Nodup) (here : n ∈ ns)
    (raised : (s.slot n).closeAlert (b.cfg n) = some k) (mask : maskHas s.mgmt.mask k = false)
    (entry : s.entry (.slot n) = none) (held : (s.slot n).held = none)
    (room : s.alerts.length + ns.countP (closeRaises b s) ≤ 64) :
    (closeSlots b ns s).entry (.slot n) = some (stockEntry b n k s) := by
  obtain ⟨l, r, rfl, onceL, before, after⟩ := split_of_mem_nodup once here
  have mine : closeRaises b s n = true := by
    unfold closeRaises
    rw [raised]
    rfl
  have grown := closeSlots_length_le (b := b) (s := s) onceL
  rw [List.countP_append, List.countP_cons_of_pos mine] at room
  have same := closeSlots_aside (b := b) before s
  have frame : VisitFrame s (closeSlots b l s) := closeSlots_visitFrame b l s
  obtain ⟨none, free⟩ := (closeSlots_beside (b := b) before s).of_not_held held
  rw [closeSlots_append, closeSlots_cons]
  rw [← closeAlert_congr same] at raised
  rw [← frame.mask] at mask
  obtain ⟨queued, free⟩ := closeSlot_entry raised mask (none.trans entry) free (by omega)
  rw [((closeSlots_beside after _).of_not_held free).1, queued]
  unfold stockEntry
  rw [same.count, frame.now]

/-- A slot that raises nothing, and of which nothing waits, does not come into the queue. -/
theorem closeSlots_no_entry (once : ns.Nodup) (silent : n ∈ ns → (s.slot n).closeAlert (b.cfg n) = none)
    (entry : s.entry (.slot n) = none) (held : (s.slot n).held = none) :
    (closeSlots b ns s).entry (.slot n) = none := by
  by_cases here : n ∈ ns
  · have mute := silent here
    obtain ⟨l, r, rfl, -, before, after⟩ := split_of_mem_nodup once here
    obtain ⟨none, free⟩ := (closeSlots_beside (b := b) before s).of_not_held held
    rw [← closeAlert_congr (closeSlots_aside (b := b) before s)] at mute
    obtain ⟨kept, same⟩ := closeSlot_silent mute
    rw [closeSlots_append, closeSlots_cons, ((closeSlots_beside after _).of_not_held (same.trans free)).1, kept, none,
      entry]
  · rw [((closeSlots_beside here s).of_not_held held).1, entry]

end

/-! ## The close as a whole -/

/-- The state in which the slots of a closing session are re-evaluated: its record is free, and LAPSED is raised at an
expiry (R117, R121). -/
def freed (b : Bank) (id : SessionId) (r : Session) (expired : Bool) (s : State) : State :=
  if expired then lapse b id r s else s.setSession id none

section
variable (b : Bank) (id : SessionId) (r : Session) (expired : Bool) (s : State)

theorem closeSession_eq :
    closeSession b id r expired s = closeSlots b (slotRange r.first r.last) (freed b id r expired s) := by
  cases expired <;> rfl

theorem slotRange_nodup (first last : Slot) : (slotRange first last).Nodup := allSlots_nodup.filter _

theorem freed_onlyAlerts : OnlyAlerts (s.setSession id none) (freed b id r expired s) := by
  cases expired with
  | false => exact .refl _
  | true => exact lapse_onlyAlerts b id r s

theorem freed_slot (n : Slot) : SameButHeld (s.slot n) ((freed b id r expired s).slot n) :=
  (freed_onlyAlerts b id r expired s).slot n

theorem freed_beside (n : Slot) : Beside n s (freed b id r expired s) := by
  have free : Beside n s (s.setSession id none) := .of_same rfl rfl
  cases expired with
  | false => exact free
  | true => exact free.trans (raiseAlert_beside (a := lapsedAlert id r (s.setSession id none)) nofun _)

theorem freed_length_le : (freed b id r expired s).alerts.length ≤ s.alerts.length + expired.toNat := by
  cases expired with
  | false => exact le_rfl
  | true => exact raiseAlert_length_le b _ (s.setSession id none)

theorem closeSession_sessions : (closeSession b id r expired s).sessions = s.sessions.set id none := by
  rw [closeSession_eq]
  exact (closeSlots_visitFrame b _ _).sessions.trans (freed_onlyAlerts b id r expired s).sessions

/-- A close frees its record and touches slot records and the alert queue besides. -/
theorem closeSession_frame : closeSession b id r expired s = { s with
    sessions := s.sessions.set id none
    slots := (closeSession b id r expired s).slots
    alerts := (closeSession b id r expired s).alerts
    mgmt := { s.mgmt with
      counters := { s.mgmt.counters with
        queueOverflow := (closeSession b id r expired s).mgmt.counters.queueOverflow } } } := by
  have free : TickFrame s (s.setSession id none) := rfl
  have frame : TickFrame s (closeSession b id r expired s) := by
    rw [closeSession_eq]
    exact (free.trans ((freed_onlyAlerts b id r expired s).onlySlot 0).tickFrame).trans
      (.foldl _ (fun s n => (closeSlot_onlySlot b n s).tickFrame) _ _)
  unfold TickFrame at frame
  rw [closeSession_sessions] at frame
  exact frame

/-- The record of each slot after a close (R117, R118). -/
theorem closeSession_slot (n : Slot) : SameButHeld
    (if r.covers n then (s.slot n).closed (b.cfg n) s.minute else s.slot n)
    ((closeSession b id r expired s).slot n) := by
  have closed := closeSlots_slot (b := b) (s := freed b id r expired s) (slotRange_nodup r.first r.last) n
  have same := freed_slot b id r expired s n
  have minute : (freed b id r expired s).minute = s.minute := (freed_onlyAlerts b id r expired s).minute
  rw [← closeSession_eq, minute] at closed
  simp only [mem_slotRange] at closed
  refine SameButHeld.trans ?_ closed
  split
  · exact same.closed (b.cfg n) s.minute
  · exact same

/-- A close without an expiry brings in no LAPSED (R121). -/
theorem closeSession_bringsOnly : BringsOnly (· ≠ .lapsed) s (closeSession b id r false s) :=
  closeSlots_bringsOnly b (slotRange r.first r.last) (s.setSession id none)

/-- The alerts of a close, by what each slot raises. -/
theorem closeSession_alerts : ClosedSlotAlerts r expired.toNat s (closeSession s.acting id r expired s) := by
  have once := slotRange_nodup r.first r.last
  have same := freed_slot s.acting id r expired s
  have beside := freed_beside s.acting id r expired s
  have only := freed_onlyAlerts s.acting id r expired s
  have grown := freed_length_le s.acting id r expired s
  unfold ClosedSlotAlerts
  dsimp only
  rw [closeSession_eq]
  generalize freed s.acting id r expired s = u at *
  refine ⟨fun n k raised mask entry held room => ?_, fun n silent entry held => ?_⟩
  · split at raised
    · next covers =>
      obtain ⟨none, free⟩ := (beside n).of_not_held held
      have count : (slotRange r.first r.last).countP (closeRaises s.acting u) = allSlots.countP fun m =>
          (if r.covers m then (s.slot m).closeAlert (s.acting.cfg m) else Option.none).isSome := by
        unfold slotRange
        rw [List.countP_filter]
        refine List.countP_congr fun m _ => ?_
        unfold closeRaises
        rw [closeAlert_congr (same m), ← Session.covers]
        cases r.covers m
        · rw [Bool.and_false]
          rfl
        · rw [Bool.and_true]
          rfl
      rw [← closeAlert_congr (same n)] at raised
      rw [closeSlots_entry once ((mem_slotRange r n).mpr covers) raised (only.mask ▸ mask) (none.trans entry) free
        (by omega)]
      unfold stockEntry
      rw [(same n).count, only.now]
      rfl
    · cases raised
  · obtain ⟨none, free⟩ := (beside n).of_not_held held
    refine closeSlots_no_entry once (fun here => ?_) (none.trans entry) free
    rw [closeAlert_congr (same n)]
    exact (if_pos ((mem_slotRange r n).mp here)).symm.trans silent

end

/-! ## SESSION_EXPIRY -/

/-- LAPSED joins a queue with room that holds nothing of the session (R121, R129). -/
theorem lapse_entry {b : Bank} {id : SessionId} {r : Session} {s : State} (mask : maskHas s.mgmt.mask .lapsed = false)
    (entry : s.entry (.session id) = none) (room : s.alerts.length < 64) :
    (lapse b id r s).entry (.session id) = some
      ⟨⟨.session id, .lapsed, .noReason, none, some r.added, none, none, s.now⟩, false⟩ := by
  have placed : lapse b id r s = (s.setSession id none).enqueue b (lapsedAlert id r s) := by
    unfold lapse raiseAlert
    have unmasked : maskHas (s.setSession id none).mgmt.mask (lapsedAlert id r (s.setSession id none)).kind = false :=
      mask
    have empty : (s.setSession id none).entry (lapsedAlert id r (s.setSession id none)).key = none := entry
    rw [if_neg (by rw [unmasked]; decide), empty]
    exact if_pos room
  rw [placed]
  exact entryIn_joinTail_self (e := ⟨lapsedAlert id r s, false⟩) rfl entry

theorem expireOne_of_due {b : Bank} {id : SessionId} {r : Session} {s : State} (opened : s.session id = some r)
    (due : reached s.minute r.deadline = true) : expireOne b id s = closeSession b id r true s := by
  unfold expireOne
  rw [opened]
  exact if_pos due

/-- Settles O7: an expiry is the close of its session after LAPSED. -/
theorem sessionExpiryClosesAndReportsLapsed : Obligations.SessionExpiryClosesAndReportsLapsed := by
  unfold Obligations.SessionExpiryClosesAndReportsLapsed
  intro id s
  refine ⟨fun r opened due => ?_, fun r opened later => ?_, fun free => ?_⟩
  · refine ⟨closeSession s.acting id r true s, congrArg Host.Outcome.next (expireOne_of_due opened due), ?_,
      closeSession_frame _ id r true s, closeSession_slot _ id r true s, fun mask entry room => ?_,
      closeSession_alerts id r true s⟩
    · unfold State.session
      rw [closeSession_sessions]
      exact Vector.getElem_set_self _
    · rw [closeSession_eq, closeSlots_session_entry]
      exact lapse_entry mask entry room
  · refine congrArg Host.Outcome.next ?_
    unfold expireOne
    rw [opened]
    exact if_neg (by rw [later]; decide)
  · refine congrArg Host.Outcome.next ?_
    unfold expireOne
    rw [free]

/-! ## CLOSE_RESTOCK -/

section
variable (src : Source) {a : Byte} {id : SessionId} (own : id.val = a.toNat) {s : State}
include own

theorem sessionId_of_byte : ∃ below : (byteAt [a] 0).toNat < 8, (⟨(byteAt [a] 0).toNat, below⟩ : SessionId) = id :=
  ⟨own ▸ id.isLt, Fin.ext own.symm⟩

/-- CLOSE_RESTOCK of a FREE record (R115). -/
theorem closeRequest_of_free (free : s.session id = none) : closeRequest src [a] s = .plain .noSession s := by
  obtain ⟨below, same⟩ := sessionId_of_byte own
  unfold closeRequest
  rw [dif_pos below]
  dsimp only
  rw [same, free]

/-- CLOSE_RESTOCK of an OPEN record: denied, or carried out (R115). -/
theorem closeRequest_of_open {r : Session} (opened : s.session id = some r) : closeRequest src [a] s =
    if s.zones.holds src .session r.first = false then .denied src codeCloseRestock (some r.first) s
    else { status := .ok, results := beBytes 4 r.added.toNat, state := closeSession s.acting id r false s } := by
  obtain ⟨below, same⟩ := sessionId_of_byte own
  unfold closeRequest
  rw [dif_pos below]
  dsimp only
  rw [same, opened]

end

/-- Settles O35: the checks in their order, then the close of the session without LAPSED. -/
theorem closeRestockReevaluatesItsRange : Obligations.CloseRestockReevaluatesItsRange := by
  unfold Obligations.CloseRestockReevaluatesItsRange
  intro s f src a h
  refine ⟨fun beyond => ?_, fun id own => ?_⟩
  · exact congrArg Host.Outcome.next (takeRequest_plain h (dif_neg (Nat.not_lt.mpr beyond)))
  · refine ⟨fun free => ?_, fun r opened => ⟨fun lacks => ?_, fun may => ?_⟩⟩
    · exact congrArg Host.Outcome.next (takeRequest_plain h (closeRequest_of_free src own (s := s.dropRequest) free))
    · have request := closeRequest_of_open src own (s := s.dropRequest) opened
      exact congrArg Host.Outcome.next (takeRequest_denied h (request.trans (if_pos lacks)))
    · have request := closeRequest_of_open src own (s := s.dropRequest) opened
      have granted : s.dropRequest.zones.holds src .session r.first = true := may
      rw [if_neg (by rw [granted]; decide)] at request
      have frame := closeSession_frame s.dropRequest.acting id r false s.dropRequest
      refine ⟨_, congrArg Host.Outcome.next (takeRequest_answer h request), ⟨?_, rfl⟩, ?_,
        closeSession_slot s.acting id r false s.dropRequest, fun heldOk e queued lapsed => ?_, ?_⟩
      · exact (congrArg (fun u : State => u.mgmt.requests) frame :)
      · rw [frame]
        rfl
      · obtain ⟨-, brought⟩ := closeSession_bringsOnly s.acting id r s.dropRequest fun n k held =>
          (heldOk n k held).1
        exact (brought e queued).resolve_right fun other => other lapsed
      · exact closeSession_alerts id r false s.dropRequest

end Sys2Proof.Machine
end

section
/-!
PROOFS. The forecast (O8, O32): the recomputation of the projection and the arming decision that follows it, with the
FORECAST it raises, and the close of a forecast window by its own row (R98 to R102).
-/

namespace Sys2Proof.Machine

section
variable {b : Bank} {n : Slot} {s : State}

/-! ## The arming decision (R101, R102) -/

theorem mayForecast_iff : mayForecast n s = true ↔ (s.slot n).armed = true ∧ (s.slot n).stock = .stocked
    ∧ (s.slot n).rate.any (0 < ·) = true ∧ s.covered n = false ∧ (s.slot n).fault = none := by
  simp [mayForecast, and_assoc]

/-- The alert that warns of a depletion within the lead time (R102). -/
def forecastAlert (b : Bank) (n : Slot) (s : State) : Alert :=
  slotAlert b n .forecast .noReason (s.slot n).count (some (s.slot n).projection) s

theorem arming_of_above (above : (b.cfg n).lead.toNat < (s.slot n).projection) :
    arming b n s = s.modSlot n fun v => { v with armed := true } :=
  if_pos above

theorem arming_of_warning (within : ¬ (b.cfg n).lead.toNat < (s.slot n).projection) (warns : mayForecast n s = true) :
    arming b n s = (raiseAlert b (forecastAlert b n s) s).modSlot n fun v => { v with armed := false } :=
  (if_neg within).trans (if_pos warns)

theorem arming_of_quiet (within : ¬ (b.cfg n).lead.toNat < (s.slot n).projection)
    (quiet : ¬ mayForecast n s = true) : arming b n s = s :=
  (if_neg within).trans (if_neg quiet)

/-- The armed flag after the decision at a projection: set above the lead time, and cleared by a warning at or below
it. -/
def armedAfter (b : Bank) (n : Slot) (projection : Nat) (s : State) : Bool :=
  if (b.cfg n).lead.toNat < projection then true else if mayForecast n s then false else (s.slot n).armed

theorem arming_writes_armed (b : Bank) (n : Slot) (s : State) :
    SameButHeld { s.slot n with armed := armedAfter b n (s.slot n).projection s } ((arming b n s).slot n) := by
  unfold armedAfter
  by_cases above : (b.cfg n).lead.toNat < (s.slot n).projection
  · rw [if_pos above, arming_of_above above, State.slot_modSlot_self]
    exact .refl _
  · by_cases warns : mayForecast n s = true
    · rw [if_neg above, if_pos warns, arming_of_warning above warns]
      exact ((raiseAlert_onlyAlerts b _ s).slot n).modSlot (f := fun v => { v with armed := false }) fun _ _ => rfl
    · rw [if_neg above, if_neg warns, arming_of_quiet above warns]
      exact .refl _

/-- Without a warning the decision leaves the alert queue alone. -/
theorem arming_alerts_of_no_warning
    (silent : ¬ ((s.slot n).projection ≤ (b.cfg n).lead.toNat ∧ mayForecast n s = true)) :
    (arming b n s).alerts = s.alerts := by
  by_cases above : (b.cfg n).lead.toNat < (s.slot n).projection
  · rw [arming_of_above above, State.modSlot_alerts]
  · rw [arming_of_quiet above fun warns => silent ⟨Nat.not_lt.mp above, warns⟩]

/-- The FORECAST of a slot of which nothing waits joins a queue with room, in the normal tier (R102, R124, R129). -/
theorem arming_entry (within : (s.slot n).projection ≤ (b.cfg n).lead.toNat) (warns : mayForecast n s = true)
    (mask : maskHas s.mgmt.mask .forecast = false) (entry : s.entry (.slot n) = none)
    (held : (s.slot n).held = none) (room : s.alerts.length < 64) :
    (arming b n s).entry (.slot n) = some ⟨forecastAlert b n s, false⟩ := by
  rw [arming_of_warning (Nat.not_lt.mpr within) warns, State.entry_modSlot,
    raiseAlert_enqueue (a := forecastAlert b n s) rfl mask entry held room]
  exact entryIn_joinTail_self (e := ⟨forecastAlert b n s, false⟩) rfl entry

/-! ## The recomputation (R100) -/

/-- The projection of a slot under a bank, from its record (R100). -/
def SlotLive.projectionIn (cfg : SlotCfg) (v : SlotLive) : Nat := projectionOf v.count cfg.forecast.toNat v.rate

/-- The state in which a recomputation decides the arming. -/
def projected (b : Bank) (n : Slot) (s : State) : State :=
  s.modSlot n fun v => { v with projection := v.projectionIn (b.cfg n) }

theorem recompute_eq_arming : recompute b n s = arming b n (projected b n s) := rfl

theorem projected_slot :
    (projected b n s).slot n = { s.slot n with projection := (s.slot n).projectionIn (b.cfg n) } :=
  State.slot_modSlot_self s n _

/-- The conditions of a warning do not read the projection. -/
theorem mayForecast_projected : mayForecast n (projected b n s) = mayForecast n s := by
  unfold mayForecast
  rw [projected_slot]
  rfl

theorem recompute_writes_projection_and_armed (b : Bank) (n : Slot) (s : State) :
    SameButHeld { s.slot n with
        projection := (s.slot n).projectionIn (b.cfg n)
        armed := armedAfter b n ((s.slot n).projectionIn (b.cfg n)) s }
      ((recompute b n s).slot n) := by
  have decided := arming_writes_armed b n (projected b n s)
  unfold armedAfter at decided ⊢
  rw [mayForecast_projected, projected_slot] at decided
  exact decided

/-- Settles O32, by the arming decision on the recomputed projection. -/
theorem projectionDecidesTheForecastAlert : Obligations.ProjectionDecidesTheForecastAlert := by
  unfold Obligations.ProjectionDecidesTheForecastAlert
  intro b n s v p warns t
  have projection : ((projected b n s).slot n).projection = p := by rw [projected_slot]; rfl
  have warns_iff : warns ↔ p ≤ (b.cfg n).lead.toNat ∧ mayForecast n s = true :=
    and_congr_right fun _ => mayForecast_iff.symm
  refine ⟨recompute_onlySlot b n s, ?_, fun silent => ?_, fun warning mask entry held room => ?_⟩
  · have record := (recompute_writes_projection_and_armed b n s).eq
    have armed : armedAfter b n p s
        = if (b.cfg n).lead.toNat < p then true else if warns then false else v.armed := by
      unfold armedAfter
      split
      · rfl
      · next within => simp only [warns_iff, Nat.not_lt.mp within, true_and]; rfl
    rw [← armed]
    exact record
  · refine arming_alerts_of_no_warning (s := projected b n s) ?_
    rwa [projection, mayForecast_projected, ← warns_iff]
  · obtain ⟨within, may⟩ := warns_iff.mp warning
    have raised := arming_entry (s := projected b n s) (projection.trans_le within)
      (mayForecast_projected.trans may) mask entry (by rw [projected_slot]; exact held) room
    refine raised.trans ?_
    unfold forecastAlert
    rw [projection, projected_slot]
    rfl

/-! ## The close of a forecast window (R98, R99) -/

/-- The state in which the close of a window recomputes the projection. -/
def windowTurned (n : Slot) (s : State) : State :=
  s.modSlot n fun v => { v with rate := some v.removedSum, removedSum := 0, elapsed := some 0 }

theorem windowClose_eq_recompute : windowClose b n s = recompute b n (windowTurned n s) := rfl

theorem windowTurned_slot : (windowTurned n s).slot n =
    { s.slot n with rate := some (s.slot n).removedSum, removedSum := 0, elapsed := some 0 } :=
  State.slot_modSlot_self s n _

/-- The conditions of a warning after a close, by the removed sum that has become the rate. -/
theorem mayForecast_windowTurned : mayForecast n (windowTurned n s) = ((s.slot n).armed
    && ((s.slot n).stock = .stocked && 0 < (s.slot n).removedSum && !s.covered n && (s.slot n).fault.isNone)) := by
  unfold mayForecast
  rw [windowTurned_slot]
  simp only [Option.any_some, windowTurned, State.covered_modSlot, Bool.and_assoc]

/-- A flag that is cleared when it is set and a condition holds. -/
theorem cleared_eq_and_not (flag c : Bool) : (if flag && c then false else flag) = (flag && !c) := by
  cases flag with
  | false => rfl
  | true => cases c <;> rfl

theorem armedAfter_windowTurned (p : Nat) : armedAfter b n p (windowTurned n s) =
    if (b.cfg n).lead.toNat < p then true
    else (s.slot n).armed && !((s.slot n).stock = .stocked && 0 < (s.slot n).removedSum
      && !s.covered n && (s.slot n).fault.isNone) := by
  unfold armedAfter
  rw [mayForecast_windowTurned, windowTurned_slot]
  exact if_congr Iff.rfl rfl (cleared_eq_and_not _ _)

theorem windowClose_slot (b : Bank) (n : Slot) (s : State) :
    let p := projectionOf (s.slot n).count (b.cfg n).forecast.toNat (some (s.slot n).removedSum)
    SameButHeld { s.slot n with
        rate := some (s.slot n).removedSum, removedSum := 0, elapsed := some 0, projection := p
        armed := if (b.cfg n).lead.toNat < p then true
          else (s.slot n).armed && !((s.slot n).stock = .stocked && 0 < (s.slot n).removedSum
            && !s.covered n && (s.slot n).fault.isNone) }
      ((windowClose b n s).slot n) := by
  have written := recompute_writes_projection_and_armed b n (windowTurned n s)
  rw [armedAfter_windowTurned, windowTurned_slot] at written
  exact written

theorem windowDone_of_running {e : Nat} (running : (s.slot n).elapsed = some e) :
    windowDone b n s = true ↔ (b.cfg n).forecast.toNat ≤ e := by
  simp [windowDone, running]

end

/-- Settles O8: a window that has run its minutes closes, and any other stays. -/
theorem forecastWindowCloseTakesTheRate : Obligations.ForecastWindowCloseTakesTheRate := by
  unfold Obligations.ForecastWindowCloseTakesTheRate
  intro n s e running
  have done := windowDone_of_running (b := s.acting) running
  refine ⟨fun reached => ?_, fun short => ?_⟩
  · exact ⟨windowClose s.acting n s, _, congrArg Host.Outcome.next (if_pos (done.mpr reached)),
      windowClose_onlySlot s.acting n s, rfl, (windowClose_slot s.acting n s).eq⟩
  · exact congrArg Host.Outcome.next (if_neg fun closes => Nat.not_le.mpr short (done.mp closes))

end Sys2Proof.Machine
end

section
/-!
PROOFS. OPEN_RESTOCK (O34): what its three searches find (the lowest slot without SESSION, the lowest session that
overlaps, the lowest FREE record), how the request ends after each check (R110 to R113), and the state in which a
session opens (R113, R114).
-/

namespace Sys2Proof.Machine

/-! ## The lowest that a search finds -/

/-- The first find in an ascending list is the least. -/
theorem find?_eq_some_of_least {α : Type} [LinearOrder α] {p : α → Bool} {xs : List α} {x : α}
    (ascending : xs.Pairwise (· < ·)) (mem : x ∈ xs) (holds : p x = true) (least : ∀ y ∈ xs, p y = true → x ≤ y) :
    xs.find? p = some x := by
  obtain ⟨before, after, rfl⟩ := List.append_of_mem mem
  obtain ⟨-, -, below⟩ := List.pairwise_append.mp ascending
  refine List.find?_eq_some_iff_append.mpr ⟨holds, before, after, rfl, fun y earlier => ?_⟩
  have fails : ¬ p y = true := fun found =>
    not_lt.mpr (least y (List.mem_append_left _ earlier) found) (below y earlier x List.mem_cons_self)
  simpa using fails

theorem slotRange_ascending (first last : Slot) : (slotRange first last).Pairwise (· < ·) :=
  (List.pairwise_lt_finRange 256).filter _

theorem mem_slotRange_iff {first last n : Slot} : n ∈ slotRange first last ↔ first ≤ n ∧ n ≤ last := by
  simp [slotRange, mem_allSlots]

section
variable {z : Zones} {src : Source} {first last : Slot}

theorem lackingSession_eq_some {n : Slot} (lacks : first ≤ n ∧ n ≤ last ∧ z.holds src .session n = false)
    (least : ∀ m, first ≤ m ∧ m ≤ last ∧ z.holds src .session m = false → n ≤ m) :
    lackingSession z src first last = some n := by
  obtain ⟨above, below, mayNot⟩ := lacks
  refine find?_eq_some_of_least (slotRange_ascending first last) (mem_slotRange_iff.mpr ⟨above, below⟩)
    (decide_eq_true mayNot) fun m inRange found => ?_
  obtain ⟨above, below⟩ := mem_slotRange_iff.mp inRange
  exact least m ⟨above, below, of_decide_eq_true found⟩

theorem lackingSession_eq_none (may : ¬ ∃ n, first ≤ n ∧ n ≤ last ∧ z.holds src .session n = false) :
    lackingSession z src first last = none := by
  refine List.find?_eq_none.mpr fun n inRange found => may ⟨n, ?_⟩
  obtain ⟨above, below⟩ := mem_slotRange_iff.mp inRange
  exact ⟨above, below, of_decide_eq_true found⟩

end

section
variable {s : State} {first last : Slot} {id : SessionId}

theorem overlaps_iff : (s.session id).any (fun r => r.first ≤ last && first ≤ r.last) = true
    ↔ ∃ r, s.session id = some r ∧ r.first ≤ last ∧ first ≤ r.last := by
  simp [Option.any_eq_true]

theorem overlapping_eq_some (meets : ∃ r, s.session id = some r ∧ r.first ≤ last ∧ first ≤ r.last)
    (least : ∀ j, (∃ r, s.session j = some r ∧ r.first ≤ last ∧ first ≤ r.last) → id ≤ j) :
    s.overlapping first last = some id :=
  find?_eq_some_of_least (List.pairwise_lt_finRange 8) (List.mem_finRange id) (overlaps_iff.mpr meets)
    fun j _ found => least j (overlaps_iff.mp found)

theorem overlapping_eq_none (apart : ¬ ∃ id, ∃ r, s.session id = some r ∧ r.first ≤ last ∧ first ≤ r.last) :
    s.overlapping first last = none :=
  List.find?_eq_none.mpr fun id _ found => apart ⟨id, overlaps_iff.mp found⟩

theorem lowestFree_eq_some (free : s.session id = none) (least : ∀ j, s.session j = none → id ≤ j) :
    s.lowestFree = some id :=
  find?_eq_some_of_least (List.pairwise_lt_finRange 8) (List.mem_finRange id) (Option.isNone_iff_eq_none.mpr free)
    fun j _ found => least j (Option.isNone_iff_eq_none.mp found)

theorem lowestFree_eq_none (opened : ∀ id, (s.session id).isSome = true) : s.lowestFree = none :=
  List.find?_eq_none.mpr fun id _ => by simp [Option.isSome_iff_ne_none.mp (opened id)]

end

/-! ## The ends of the request (R110 to R113) -/

section
variable {s : State} {src : Source} {a b d : Byte}

theorem openRequest_of_no_duration (zero : d = 0) : openRequest src [a, b, d] s = .plain .badField s :=
  if_pos (congrArg BitVec.toNat zero)

section
variable (lasts : d ≠ 0)
include lasts

theorem openRequest_of_duration : openRequest src [a, b, d] s =
    if slotOfByte b < slotOfByte a then .plain .badIndex s
    else match lackingSession s.zones src (slotOfByte a) (slotOfByte b) with
      | some n => .denied src codeOpenRestock (some n) s
      | none =>
        match s.overlapping (slotOfByte a) (slotOfByte b) with
        | some id => { status := .overlap, results := [BitVec.ofNat 8 id.val], state := s }
        | none =>
          match s.lowestFree with
          | none => .plain .full s
          | some id =>
            let r := openedSession src (slotOfByte a) (slotOfByte b) d.toNat s
            { status := .ok
              results := BitVec.ofNat 8 id.val :: beBytes 4 r.deadline.toNat
              state := openSession id r s } :=
  if_neg fun zero : d.toNat = 0 => lasts (BitVec.eq_of_toNat_eq zero)

theorem openRequest_of_reversed (reversed : slotOfByte b < slotOfByte a) :
    openRequest src [a, b, d] s = .plain .badIndex s :=
  (openRequest_of_duration lasts).trans (if_pos reversed)

variable (ordered : slotOfByte a ≤ slotOfByte b)
include ordered

theorem openRequest_of_lacking {n : Slot} (lacks : lackingSession s.zones src (slotOfByte a) (slotOfByte b) = some n) :
    openRequest src [a, b, d] s = .denied src codeOpenRestock (some n) s := by
  rw [openRequest_of_duration lasts, if_neg (not_lt.mpr ordered), lacks]

variable (may : lackingSession s.zones src (slotOfByte a) (slotOfByte b) = none)
include may

theorem openRequest_of_overlapping {id : SessionId} (meets : s.overlapping (slotOfByte a) (slotOfByte b) = some id) :
    openRequest src [a, b, d] s = { status := .overlap, results := [BitVec.ofNat 8 id.val], state := s } := by
  rw [openRequest_of_duration lasts, if_neg (not_lt.mpr ordered), may, meets]

variable (apart : s.overlapping (slotOfByte a) (slotOfByte b) = none)
include apart

theorem openRequest_of_full (full : s.lowestFree = none) : openRequest src [a, b, d] s = .plain .full s := by
  rw [openRequest_of_duration lasts, if_neg (not_lt.mpr ordered), may, apart, full]

theorem openRequest_of_free {id : SessionId} (free : s.lowestFree = some id) : openRequest src [a, b, d] s =
    { status := .ok
      results := BitVec.ofNat 8 id.val :: beBytes 4 (s.minute + BitVec.ofNat 32 d.toNat).toNat
      state := openSession id (openedSession src (slotOfByte a) (slotOfByte b) d.toNat s) s } := by
  rw [openRequest_of_duration lasts, if_neg (not_lt.mpr ordered), may, apart, free]
  rfl

end
end

/-! ## The opening (R113, R114) -/

theorem markDeficits_eq (first last : Slot) (s : State) :
    markDeficits first last s = { s with slots := (markDeficits first last s).slots } :=
  writeSlots_eq _ _ s

theorem markDeficits_slot (first last n : Slot) (s : State) : (markDeficits first last s).slot n =
    if first ≤ n ∧ n ≤ last then { s.slot n with deficit := (s.slot n).stock.short } else s.slot n :=
  (writeSlots_slot (g := fun v => { v with deficit := v.stock.short }) (fun _ => rfl) _ s n).trans
    (if_congr mem_slotRange_iff rfl rfl)

theorem openSession_eq (id : SessionId) (r : Session) (s : State) : openSession id r s = { s with
    sessions := s.sessions.set id (some r)
    slots := (openSession id r s).slots } :=
  markDeficits_eq r.first r.last (s.setSession id (some r))

theorem openSession_slot (id : SessionId) (r : Session) (s : State) (n : Slot) : (openSession id r s).slot n =
    if r.first ≤ n ∧ n ≤ r.last then { s.slot n with deficit := (s.slot n).stock.short } else s.slot n :=
  markDeficits_slot r.first r.last n (s.setSession id (some r))

/-- Settles O34: the checks in their order, then the opening of the lowest FREE record. -/
theorem openRestockChecksThenOpens : Obligations.OpenRestockChecksThenOpens := by
  unfold Obligations.OpenRestockChecksThenOpens
  intro s f src a b d h first last lacks meets
  refine ⟨fun zero => ?_, fun lasts reversed => ?_, fun lasts ordered => ⟨fun n lacking least => ?_, fun may => ?_⟩⟩
  · exact congrArg Host.Outcome.next (takeRequest_plain h (openRequest_of_no_duration zero))
  · exact congrArg Host.Outcome.next (takeRequest_plain h (openRequest_of_reversed lasts reversed))
  · have found : lackingSession s.dropRequest.zones src first last = some n := lackingSession_eq_some lacking least
    exact congrArg Host.Outcome.next (takeRequest_denied h (openRequest_of_lacking lasts ordered found))
  have granted : lackingSession s.dropRequest.zones src first last = none := lackingSession_eq_none may
  refine ⟨fun id meeting least => ?_, fun apart => ?_⟩
  · have found : s.dropRequest.overlapping first last = some id := overlapping_eq_some meeting least
    exact congrArg Host.Outcome.next (takeRequest_answer h (openRequest_of_overlapping lasts ordered granted found))
  have clear : s.dropRequest.overlapping first last = none := overlapping_eq_none apart
  refine ⟨fun taken => ?_, fun id free least => ?_⟩
  · have full : s.dropRequest.lowestFree = none := lowestFree_eq_none taken
    exact congrArg Host.Outcome.next (takeRequest_plain h (openRequest_of_full lasts ordered granted clear full))
  · have lowest : s.dropRequest.lowestFree = some id := lowestFree_eq_some free least
    have request := openRequest_of_free (src := src) lasts ordered granted clear lowest
    have opened := openSession_eq id (openedSession src first last d.toNat s.dropRequest) s.dropRequest
    refine ⟨_, congrArg Host.Outcome.next (takeRequest_answer h request), ⟨?_, rfl⟩, ?_,
      openSession_slot id (openedSession src first last d.toNat s.dropRequest) s.dropRequest⟩
    · exact (congrArg (fun u : State => u.mgmt.requests) opened :)
    · rw [opened]
      rfl

end Sys2Proof.Machine
end

section
/-!
SUPPORT. The form of the alert queue under its operations (R123, R125, R131): the keys of the queued entries, the two
tiers, and the re-offers that are owed while slots are held back and places have come free. Every operation of the alert
queue keeps `AlertsOk`.
-/

namespace Sys2Proof.Machine

/-! ## The keys of the queue -/

/-- The keys of the queued entries, in queue order. -/
def keysOf (q : List AlertEntry) : List AlertKey := q.map (·.alert.key)

theorem entryIn_eq_none_iff {k : AlertKey} {q : List AlertEntry} : entryIn k q = none ↔ k ∉ keysOf q := by
  simp [entryIn, keysOf]

theorem entry_eq_none_iff {s : State} {k : AlertKey} : s.entry k = none ↔ k ∉ keysOf s.alerts := entryIn_eq_none_iff

theorem keysOf_joinTail_perm (e : AlertEntry) (q : List AlertEntry) :
    (keysOf (joinTail e q)).Perm (e.alert.key :: keysOf q) := by
  obtain ⟨l, r, split, join⟩ := joinTail_eq e q
  rw [join, split]
  exact (List.perm_middle (a := e) (l₁ := l) (l₂ := r)).map _

theorem keysOf_joinTail_nodup {e : AlertEntry} {q : List AlertEntry} (new : e.alert.key ∉ keysOf q)
    (once : (keysOf q).Nodup) : (keysOf (joinTail e q)).Nodup :=
  (keysOf_joinTail_perm e q).nodup_iff.mpr (List.nodup_cons.mpr ⟨new, once⟩)

/-- An entry replaced by one of its key leaves the keys as they are. -/
theorem keysOf_replace (e : AlertEntry) (q : List AlertEntry) :
    keysOf (q.map fun x => if x.alert.key = e.alert.key then e else x) = keysOf q := by
  unfold keysOf
  rw [List.map_map]
  refine List.map_congr_left fun x _ => ?_
  dsimp only [Function.comp_apply]
  split
  · next same => exact same.symm
  · rfl

theorem without_sublist (k : AlertKey) (q : List AlertEntry) : (without k q).Sublist q := List.filter_sublist

/-- An entry that leaves the queue makes it one shorter. -/
theorem length_without {k : AlertKey} {q : List AlertEntry} {e : AlertEntry} (once : (keysOf q).Nodup)
    (queued : entryIn k q = some e) : (without k q).length + 1 = q.length := by
  induction q with
  | nil => cases queued
  | cons x q ih =>
    obtain ⟨fresh, once⟩ := List.nodup_cons.mp once
    by_cases here : x.alert.key = k
    · have others : without k q = q := List.filter_eq_self.mpr fun y hy => by
        have apart : y.alert.key ≠ k := fun same =>
          fresh (List.mem_map.mpr ⟨y, hy, same.trans here.symm⟩)
        simpa using apart
      have left : without k (x :: q) = without k q := List.filter_cons_of_neg (by simpa using here)
      rw [left, others, List.length_cons]
    · rw [entryIn_cons_ne here] at queued
      have kept : without k (x :: q) = x :: without k q := List.filter_cons_of_pos (by simpa using here)
      rw [kept, List.length_cons, List.length_cons, ih once queued]

/-- With distinct keys, the entry found for a key is every entry of that key. -/
theorem eq_of_entryIn {k : AlertKey} {q : List AlertEntry} {e x : AlertEntry} (once : (keysOf q).Nodup)
    (queued : entryIn k q = some e) (mem : x ∈ q) (key : x.alert.key = k) : x = e := by
  have found := List.find?_some (p := fun e : AlertEntry => decide (e.alert.key = k)) queued
  have found : e.alert.key = k := of_decide_eq_true found
  exact List.inj_on_of_nodup_map once mem (List.mem_of_find?_eq_some queued) (key.trans found.symm)

/-! ## The two tiers -/

/-- Urgent entries stand before normal ones (R123). -/
def Tiered (q : List AlertEntry) : Prop := q.Pairwise fun a b => b.urgent → a.urgent

theorem tiered_cons {x : AlertEntry} {q : List AlertEntry} :
    Tiered (x :: q) ↔ (∀ y ∈ q, y.urgent → x.urgent) ∧ Tiered q := List.pairwise_cons

/-- A tiered queue is its urgent entries, then its normal ones. -/
theorem Tiered.split {q : List AlertEntry} (tiers : Tiered q) :
    q.takeWhile (·.urgent) = q.filter (·.urgent) ∧ q.dropWhile (·.urgent) = q.filter (!·.urgent) := by
  induction q with
  | nil => exact ⟨rfl, rfl⟩
  | cons x q ih =>
    obtain ⟨first, rest⟩ := tiered_cons.mp tiers
    obtain ⟨before, behind⟩ := ih rest
    cases urgent : x.urgent with
    | true => simp [urgent, before, behind]
    | false =>
      have normal : ∀ y ∈ q, y.urgent = false := fun y hy => by
        simpa [urgent] using first y hy
      have none : q.filter (·.urgent) = [] := List.filter_eq_nil_iff.mpr fun y hy => by simp [normal y hy]
      have all : q.filter (!·.urgent) = q := List.filter_eq_self.mpr fun y hy => by simp [normal y hy]
      simp [urgent, none, all]

theorem tiered_append {q r : List AlertEntry} (urgent : ∀ x ∈ q, x.urgent = true)
    (normal : ∀ x ∈ r, x.urgent = false) :
    Tiered (q ++ r) := by
  refine List.pairwise_append.mpr ⟨?_, ?_, fun x hx _ _ _ => urgent x hx⟩
  · exact List.pairwise_of_forall_mem_list fun x hx _ _ _ => urgent x hx
  · exact List.pairwise_of_forall_mem_list fun _ _ y hy h => absurd h (by simp [normal y hy])

/-- The queue as entries of `r` join it one after the other: the tail of each tier grows (R123, R129). -/
def tailed (q r : List AlertEntry) : List AlertEntry :=
  q.filter (·.urgent) ++ r.filter (·.urgent) ++ q.filter (!·.urgent) ++ r.filter (!·.urgent)

theorem tailed_tiered (q r : List AlertEntry) : Tiered (tailed q r) := by
  unfold tailed
  rw [List.append_assoc]
  refine tiered_append ?_ ?_
  · intro x hx
    simp only [List.mem_append, List.mem_filter] at hx
    exact hx.elim And.right And.right
  · intro x hx
    simp only [List.mem_append, List.mem_filter, Bool.not_eq_true'] at hx
    exact hx.elim And.right And.right

theorem Tiered.tailed_nil {q : List AlertEntry} (tiers : Tiered q) : tailed q [] = q := by
  obtain ⟨before, behind⟩ := tiers.split
  rw [tailed, List.filter_nil, List.filter_nil, List.append_nil, List.append_nil, ← before, ← behind]
  exact List.takeWhile_append_dropWhile

/-- An entry joins the tail of its tier. -/
theorem Tiered.joinTail_eq {q : List AlertEntry} (tiers : Tiered q) (e : AlertEntry) :
    joinTail e q = tailed q [e] := by
  obtain ⟨before, behind⟩ := tiers.split
  have whole := tiers.tailed_nil
  unfold joinTail
  unfold tailed at whole ⊢
  cases urgent : e.urgent with
  | true => simp [urgent, before, behind]
  | false =>
    simp only [List.filter_nil, List.append_nil] at whole
    simp [urgent, whole]

theorem Tiered.joinTail {q : List AlertEntry} (tiers : Tiered q) (e : AlertEntry) : Tiered (joinTail e q) := by
  rw [tiers.joinTail_eq]
  exact tailed_tiered q [e]

theorem tailed_tailed (q r u : List AlertEntry) : tailed (tailed q r) u = tailed q (r ++ u) := by
  simp [tailed, List.filter_append, List.filter_filter]

/-- Whether a queue is tiered depends on the tiers of its entries alone. -/
theorem tiered_iff_map (q : List AlertEntry) : Tiered q ↔
    (q.map (·.urgent)).Pairwise fun a b => b = true → a = true := by
  rw [List.pairwise_map]
  rfl

/-! ## The form of a queue -/

/-- LAPSED is keyed by a session and every other kind by a slot (R123). -/
def Alert.KeyFits (a : Alert) : Prop := a.kind = .lapsed ↔ ∃ id, a.key = .session id

theorem Alert.keyFits_of_slot {a : Alert} {n : Slot} (key : a.key = .slot n) (kind : a.kind ≠ .lapsed) : a.KeyFits :=
  ⟨fun lapsed => absurd lapsed kind, fun ⟨id, session⟩ => by rw [key] at session; cases session⟩

theorem Alert.KeyFits.kind_ne {a : Alert} {n : Slot} (fits : a.KeyFits) (key : a.key = .slot n) :
    a.kind ≠ .lapsed := by
  intro lapsed
  obtain ⟨id, session⟩ := fits.mp lapsed
  rw [key] at session
  cases session

/-- The form of the alert queue (R123): `QueueOk` of a list of entries. -/
structure QueueForm (q : List AlertEntry) : Prop where
  length : q.length ≤ Config.alertCapacity
  once : (keysOf q).Nodup
  tiers : Tiered q
  fits : ∀ e ∈ q, e.alert.KeyFits

theorem queueOk_iff {s : State} : QueueOk s ↔ QueueForm s.alerts :=
  ⟨fun ⟨length, once, tiers, fits⟩ => ⟨length, once, tiers, fits⟩,
    fun ⟨length, once, tiers, fits⟩ => ⟨length, once, tiers, fits⟩⟩

namespace QueueForm

variable {q r : List AlertEntry} {e : AlertEntry}

theorem sublist (form : QueueForm q) (sub : r.Sublist q) : QueueForm r where
  length := sub.length_le.trans form.length
  once := form.once.sublist (sub.map _)
  tiers := form.tiers.sublist sub
  fits e he := form.fits e (sub.subset he)

theorem without (form : QueueForm q) (k : AlertKey) : QueueForm (without k q) := form.sublist (without_sublist k q)

theorem joinTail (form : QueueForm q) (room : q.length < Config.alertCapacity) (new : e.alert.key ∉ keysOf q)
    (fits : e.alert.KeyFits) : QueueForm (joinTail e q) where
  length := (length_joinTail e q).trans_le room
  once := keysOf_joinTail_nodup new form.once
  tiers := form.tiers.joinTail e
  fits x hx := (mem_joinTail hx).elim (fun own => own ▸ fits) (form.fits x)

/-- Contents replaced in their place and tier (R126). -/
theorem replace (form : QueueForm q) {old : AlertEntry} (queued : entryIn e.alert.key q = some old)
    (tier : e.urgent = old.urgent) (fits : e.alert.KeyFits) :
    QueueForm (q.map fun x => if x.alert.key = e.alert.key then e else x) where
  length := (List.length_map _).trans_le form.length
  once := keysOf_replace e q ▸ form.once
  tiers := by
    have same : (q.map fun x => if x.alert.key = e.alert.key then e else x).map (·.urgent) = q.map (·.urgent) := by
      rw [List.map_map]
      refine List.map_congr_left fun x hx => ?_
      dsimp only [Function.comp_apply]
      split
      · next key => rw [tier, eq_of_entryIn form.once queued hx key]
      · rfl
    rw [tiered_iff_map, same]
    exact (tiered_iff_map q).mp form.tiers
  fits x hx := by
    obtain ⟨y, hy, rfl⟩ := List.mem_map.mp hx
    split
    · exact fits
    · exact form.fits y hy

end QueueForm

/-! ## Held-back slots -/

/-- A held-back slot has no queued entry, its held kind is a slot kind, and the queue falls `owed` entries short of
being full: the re-offers still to come (R125, R131). -/
def HeldOwing (owed : Nat) (s : State) : Prop := ∀ n k, (s.slot n).held = some k →
  k ≠ .lapsed ∧ s.entry (.slot n) = none ∧ s.alerts.length + owed = Config.alertCapacity

/-- The form of the alert queue while `owed` re-offers are still to come. -/
structure FormOwing (owed : Nat) (s : State) : Prop where
  queue : QueueForm s.alerts
  held : HeldOwing owed s

theorem alertsOk_iff {s : State} : AlertsOk s ↔ FormOwing 0 s ∧ MaskOk s :=
  ⟨fun ⟨queue, held, mask⟩ => ⟨⟨queueOk_iff.mp queue, held⟩, mask⟩,
    fun ⟨⟨queue, held⟩, mask⟩ => ⟨queueOk_iff.mpr queue, held, mask⟩⟩

theorem FormOwing.of_none_held {s : State} (queue : QueueForm s.alerts) (none : ∀ n, (s.slot n).held = none)
    (owed : Nat) : FormOwing owed s := ⟨queue, fun n k held => by rw [none n] at held; cases held⟩

/-- No slot is held back while the queue has more room than is owed. -/
theorem FormOwing.none_held {s : State} (form : FormOwing 0 s) (room : s.alerts.length < Config.alertCapacity)
    (n : Slot) : (s.slot n).held = none := by
  by_contra some
  obtain ⟨k, held⟩ := Option.ne_none_iff_exists'.mp some
  exact room.ne (form.held n k held).2.2

/-- What the form of the queue reads: the queue and the held kinds. -/
theorem FormOwing.congr {owed : Nat} {s t : State} (alerts : t.alerts = s.alerts)
    (held : ∀ n, (t.slot n).held = (s.slot n).held) (form : FormOwing owed s) : FormOwing owed t := by
  refine ⟨alerts ▸ form.queue, fun n k kept => ?_⟩
  unfold State.entry
  rw [alerts]
  exact form.held n k (held n ▸ kept)

/-- A held-back flag set, cleared or changed keeps the form where the new kind, if there is one, may be held. -/
theorem FormOwing.modHeld {owed : Nat} {s : State} (form : FormOwing owed s) (n : Slot) (h : Option AlertKind)
    (may : ∀ k ∈ h, k ≠ .lapsed ∧ s.entry (.slot n) = none ∧ s.alerts.length + owed = Config.alertCapacity) :
    FormOwing owed (s.modSlot n fun v => { v with held := h }) := by
  refine ⟨form.queue, fun m k held => ?_⟩
  rw [State.slot_modSlot] at held
  split at held
  · next here =>
    subst here
    exact may k held
  · exact form.held m k held

theorem FormOwing.release {owed : Nat} {s : State} (form : FormOwing owed s) (n : Slot) :
    FormOwing owed (s.modSlot n fun v => { v with held := none }) := form.modHeld n none nofun

/-! ## Re-offer and withdrawal -/

theorem lowestHeld_eq_some_iff {s : State} {n : Slot} :
    s.lowestHeld = some n ↔ (s.slot n).held.isSome = true ∧ ∀ m, m < n → (s.slot m).held = none := by
  constructor
  · intro found
    obtain ⟨held, before, after, split, none⟩ := List.find?_eq_some_iff_append.mp found
    refine ⟨held, fun m below => ?_⟩
    have ascending : (before ++ n :: after).Pairwise (· < ·) := split ▸ List.pairwise_lt_finRange 256
    have later := (List.pairwise_cons.mp (List.pairwise_append.mp ascending).2.1).1
    have mem : m ∈ before ++ n :: after := split ▸ mem_allSlots m
    obtain early | rfl | late := by simpa using mem
    · simpa using none m early
    · exact absurd below (lt_irrefl _)
    · exact absurd below (later m late).not_gt
  · rintro ⟨held, none⟩
    exact find?_eq_some_of_least (List.pairwise_lt_finRange 256) (mem_allSlots n) held fun m _ found => by
      by_contra below
      simp [none m (not_le.mp below)] at found

theorem lowestHeld_eq_none_iff {s : State} : s.lowestHeld = none ↔ ∀ n, (s.slot n).held = none := by
  simp [State.lowestHeld, mem_allSlots]

/-- The entry a held-back slot joins the queue as (R131). -/
theorem enqueue_reofferAlert (b : Bank) (n : Slot) (h : AlertKind) (s : State) :
    s.enqueue b (reofferAlert b n h s) = s.setAlerts (joinTail (heldEntry b n h s) s.alerts) := by
  have entry : ⟨reofferAlert b n h s, (reofferAlert b n h s).urgent b⟩ = heldEntry b n h s := by
    unfold reofferAlert heldEntry slotAlert Alert.urgent
    cases h with
    | fault => cases fault : (s.slot n).fault with
      | none => simp [reofferReason, fault, AlertKind.urgent]
      | some r => cases r <;> simp [reofferReason, fault, AlertKind.urgent, FaultReason.alertReason]
    | inspect => cases inspection : (s.slot n).inspection with
      | none => simp [reofferReason, inspection, AlertKind.urgent]
      | some r => cases r <;> simp [reofferReason, inspection, AlertKind.urgent, InspectReason.alertReason]
    | _ => simp [reofferReason, AlertKind.urgent, urgentClassOf]
  rw [← entry]
  rfl

@[simp] theorem heldEntry_key (b : Bank) (n : Slot) (h : AlertKind) (s : State) :
    (heldEntry b n h s).alert.key = .slot n := rfl

@[simp] theorem heldEntry_kind (b : Bank) (n : Slot) (h : AlertKind) (s : State) :
    (heldEntry b n h s).alert.kind = h := rfl

/-- The re-offer of a held-back slot: it joins the queue and is held back no more. -/
def reoffered (b : Bank) (n : Slot) (h : AlertKind) (s : State) : State :=
  (s.setAlerts (joinTail (heldEntry b n h s) s.alerts)).modSlot n fun v => { v with held := none }

theorem reoffer_of_none_held {b : Bank} {s : State} (none : ∀ n, (s.slot n).held = none) : reoffer b s = s := by
  unfold reoffer
  rw [lowestHeld_eq_none_iff.mpr none]

theorem reoffer_of_lowest {b : Bank} {s : State} {n : Slot} {h : AlertKind} (held : (s.slot n).held = some h)
    (lowest : ∀ m, m < n → (s.slot m).held = none) : reoffer b s = reoffered b n h s := by
  have found : s.lowestHeld = some n := lowestHeld_eq_some_iff.mpr ⟨by rw [held]; rfl, lowest⟩
  unfold reoffer reoffered
  rw [found]
  dsimp only
  rw [held]
  dsimp only
  rw [enqueue_reofferAlert]

/-- Everything a re-offer can do (R131). -/
theorem reoffer_cases (b : Bank) (s : State) : (∀ n, (s.slot n).held = none) ∧ reoffer b s = s
    ∨ ∃ n h, (s.slot n).held = some h ∧ (∀ m, m < n → (s.slot m).held = none)
      ∧ reoffer b s = reoffered b n h s := by
  cases found : s.lowestHeld with
  | none =>
    have none := lowestHeld_eq_none_iff.mp found
    exact .inl ⟨none, reoffer_of_none_held none⟩
  | some n =>
    obtain ⟨isSome, lowest⟩ := lowestHeld_eq_some_iff.mp found
    obtain ⟨h, held⟩ := Option.isSome_iff_exists.mp isSome
    exact .inr ⟨n, h, held, lowest, reoffer_of_lowest held lowest⟩

/-- A re-offer pays one of those that are owed (R131). -/
theorem FormOwing.reoffer {b : Bank} {owed : Nat} {s : State} (form : FormOwing (owed + 1) s) :
    FormOwing owed (reoffer b s) := by
  obtain ⟨none, same⟩ | ⟨n, h, held, -, offered⟩ := reoffer_cases b s
  · rw [same]
    exact .of_none_held form.queue none owed
  · obtain ⟨kind, free, short⟩ := form.held n h held
    have room : s.alerts.length < Config.alertCapacity := by omega
    rw [offered]
    refine ⟨form.queue.joinTail room (entry_eq_none_iff.mp free) (Alert.keyFits_of_slot rfl kind),
      fun m k kept => ?_⟩
    rw [reoffered, State.slot_modSlot] at kept
    split at kept
    · cases kept
    · next apart =>
      obtain ⟨kind, free, short⟩ := form.held m k kept
      have other : (heldEntry b n h s).alert.key ≠ .slot m := fun e => apart (AlertKey.slot.inj e).symm
      refine ⟨kind, (entryIn_joinTail_ne other s.alerts).trans free, ?_⟩
      show (Machine.joinTail (heldEntry b n h s) s.alerts).length + owed = _
      rw [length_joinTail, ← short]
      omega

theorem FormOwing.reoffers {b : Bank} {owed : Nat} {s : State} (form : FormOwing owed s) :
    FormOwing 0 (reoffers b owed s) := by
  induction owed generalizing s with
  | zero => exact form
  | succ owed ih => exact ih form.reoffer

/-- Entries that leave the queue owe as many re-offers. -/
theorem FormOwing.leave {s : State} (form : FormOwing 0 s) {q : List AlertEntry} {gone : Nat}
    (sub : q.Sublist s.alerts) (length : q.length + gone = s.alerts.length) : FormOwing gone (s.setAlerts q) := by
  refine ⟨form.queue.sublist sub, fun n k held => ?_⟩
  obtain ⟨kind, free, full⟩ := form.held n k held
  refine ⟨kind, entry_eq_none_iff.mpr fun mem => entry_eq_none_iff.mp free (sub.map _ |>.subset mem), ?_⟩
  exact length.trans full

theorem FormOwing.withdraw {b : Bank} {s : State} (form : FormOwing 0 s) (k : AlertKey) :
    FormOwing 0 (withdraw b k s) := by
  unfold Machine.withdraw
  split
  · exact form
  · next e queued => exact (form.leave (without_sublist k _) (length_without form.queue.once queued)).reoffer

theorem FormOwing.withdrawSlot {b : Bank} {s : State} (form : FormOwing 0 s) (n : Slot) (p : AlertKind → Bool) :
    FormOwing 0 (withdrawSlot b n p s) := by
  have released : ∀ t, FormOwing 0 t →
      FormOwing 0 (if (t.slot n).held.any p then t.modSlot n fun v => { v with held := none } else t) := by
    intro t form
    split
    · exact form.release n
    · exact form
  unfold Machine.withdrawSlot
  refine released _ ?_
  split
  · split
    · exact form.withdraw _
    · exact form
  · exact form

theorem FormOwing.withdrawKinds {b : Bank} {s : State} (form : FormOwing 0 s) (p : AlertKind → Bool) :
    FormOwing 0 (withdrawKinds b p s) := by
  unfold Machine.withdrawKinds
  generalize (s.alerts.filter fun e => p e.alert.kind).map (·.alert.key) = ks
  induction ks generalizing s with
  | nil => exact form
  | cons k ks ih => exact ih (form.withdraw k)

theorem clearHeld_slot (p : AlertKind → Bool) (s : State) (n : Slot) :
    (clearHeld p s).slot n = if (s.slot n).held.any p then { s.slot n with held := none } else s.slot n := by
  show (s.slots.map _)[n] = _
  rw [Fin.getElem_fin, Vector.getElem_map]
  rfl

theorem clearHeld_held (p : AlertKind → Bool) (s : State) (n : Slot) :
    ((clearHeld p s).slot n).held = if (s.slot n).held.any p then none else (s.slot n).held := by
  rw [clearHeld_slot, apply_ite SlotLive.held]

theorem FormOwing.clearHeld {owed : Nat} {s : State} (form : FormOwing owed s) (p : AlertKind → Bool) :
    FormOwing owed (clearHeld p s) := by
  refine ⟨form.queue, fun n k held => ?_⟩
  rw [clearHeld_held] at held
  split at held
  · cases held
  · exact form.held n k held

/-! ## Raising -/

theorem FormOwing.merge {b : Bank} {a : Alert} {e : AlertEntry} {s : State} (form : FormOwing 0 s) (fits : a.KeyFits)
    (queued : s.entry a.key = some e) : FormOwing 0 (merge b a e s) := by
  have keep : ∀ {q : List AlertEntry}, QueueForm q → (∀ k ∈ keysOf q, k ∈ keysOf s.alerts) →
      q.length = s.alerts.length → FormOwing 0 (s.setAlerts q) := by
    intro q queue keys length
    refine ⟨queue, fun n k held => ?_⟩
    obtain ⟨kind, free, full⟩ := form.held n k held
    exact ⟨kind, entry_eq_none_iff.mpr fun mem => entry_eq_none_iff.mp free (keys _ mem), length ▸ full⟩
  have here : a.key ∈ keysOf s.alerts := by
    by_contra absent
    rw [entry_eq_none_iff.mpr absent] at queued
    cases queued
  have left := length_without form.queue.once queued
  unfold Machine.merge
  split
  · exact form.withdraw _
  · split
    · dsimp only
      split
      · next tier =>
        refine keep (form.queue.replace (e := ⟨a, _⟩) queued tier fits) (fun k mem => ?_) (List.length_map _)
        rw [keysOf_replace ⟨a, _⟩] at mem
        exact mem
      · have room : (without a.key s.alerts).length < Config.alertCapacity := by
          have capacity := form.queue.length
          omega
        have gone : a.key ∉ keysOf (without a.key s.alerts) :=
          entryIn_eq_none_iff.mp (entryIn_without_self a.key s.alerts)
        refine keep ((form.queue.without a.key).joinTail room gone fits) (fun k mem => ?_)
          ((length_joinTail _ _).trans left)
        obtain rfl | mem := List.mem_cons.mp ((keysOf_joinTail_perm _ _).mem_iff.mp mem)
        · exact here
        · exact ((without_sublist a.key s.alerts).map _).subset mem
    · exact form

theorem FormOwing.place {b : Bank} {a : Alert} {s : State} (form : FormOwing 0 s) (fits : a.KeyFits)
    (queued : s.entry a.key = none) : FormOwing 0 (place b a s) := by
  unfold Machine.place
  split
  · next room =>
    exact .of_none_held (s := s.enqueue b a) (form.queue.joinTail room (entry_eq_none_iff.mp queued) fits)
      (form.none_held room) 0
  · next full =>
    have full : s.alerts.length = Config.alertCapacity := le_antisymm form.queue.length (not_lt.mp full)
    have counted : FormOwing 0 (s.modCounters fun c =>
        { c with queueOverflow := satInc Config.counterMax c.queueOverflow }) :=
      FormOwing.congr (s := s) rfl (fun _ => rfl) form
    dsimp only
    split
    · next n key =>
      refine counted.modHeld n (some a.kind) fun k held => ?_
      cases held
      exact ⟨fits.kind_ne key, key ▸ queued, full⟩
    · exact counted

theorem FormOwing.raiseNew {b : Bank} {a : Alert} {s : State} (form : FormOwing 0 s) (fits : a.KeyFits)
    (queued : s.entry a.key = none) : FormOwing 0 (raiseNew b a s) := by
  unfold Machine.raiseNew
  split
  · next n key =>
    split
    · next h held =>
      obtain ⟨kind, free, full⟩ := form.held n h held
      refine form.modHeld n _ fun k after => ⟨?_, free, full⟩
      obtain rfl | rfl := heldAfter_eq_some after
      · exact kind
      · exact fits.kind_ne key
    · exact form.place fits queued
  · exact form.place fits queued

/-- Raising an alert keeps the form of the queue, whichever of its four decisions is taken. -/
theorem FormOwing.raiseAlert {b : Bank} {a : Alert} {s : State} (form : FormOwing 0 s) (fits : a.KeyFits) :
    FormOwing 0 (raiseAlert b a s) := by
  unfold Machine.raiseAlert
  split
  · exact form
  · split
    · next queued => exact form.merge fits queued
    · next queued => exact form.raiseNew fits queued

/-! ## Suppressed kinds -/

/-- The mask does not suppress a kind (R132). -/
def Unsuppressed (mask : BitVec 7) (k : AlertKind) : Prop := maskHas mask k = false

theorem withdrawSlot_bringsOnly {p : AlertKind → Prop} {s : State} (b : Bank) (n : Slot) (w : AlertKind → Bool) :
    BringsOnly p s (withdrawSlot b n w s) := by
  have released : ∀ t, BringsOnly p s t →
      BringsOnly p s (if (t.slot n).held.any w then t.modSlot n fun v => { v with held := none } else t) := by
    intro t before
    split
    · exact before.trans (modSlot_bringsOnly nofun)
    · exact before
  unfold withdrawSlot
  refine released _ ?_
  split
  · split
    · exact withdraw_bringsOnly b _
    · exact .refl p s
  · exact .refl p s

theorem reoffers_bringsOnly {p : AlertKind → Prop} (b : Bank) (k : Nat) (s : State) :
    BringsOnly p s (reoffers b k s) := by
  induction k generalizing s with
  | zero => exact .refl p s
  | succ k ih => exact (reoffer_bringsOnly b).trans (ih _)

theorem withdrawKinds_bringsOnly {p : AlertKind → Prop} (b : Bank) (w : AlertKind → Bool) (s : State) :
    BringsOnly p s (withdrawKinds b w s) := by
  unfold withdrawKinds
  generalize (s.alerts.filter fun e => w e.alert.kind).map (·.alert.key) = ks
  induction ks generalizing s with
  | nil => exact .refl p s
  | cons k ks ih => exact (withdraw_bringsOnly b k).trans (ih _)

/-- What brings in only kinds that a queue without suppressed kinds may hold leaves it so. -/
theorem BringsOnly.maskOk {s t : State} (brings : BringsOnly (Unsuppressed s.mgmt.mask) s t)
    (mask : t.mgmt.mask = s.mgmt.mask) (ok : MaskOk s) : MaskOk t := by
  obtain ⟨queued, held⟩ := ok
  obtain ⟨heldAfter, queuedAfter⟩ := brings held
  unfold MaskOk
  rw [mask]
  exact ⟨fun e he => (queuedAfter e he).elim (queued e) id, heldAfter⟩

theorem raiseAlert_maskOk {b : Bank} {a : Alert} {s : State} (ok : MaskOk s) : MaskOk (raiseAlert b a s) := by
  cases masked : maskHas s.mgmt.mask a.kind with
  | true =>
    unfold raiseAlert
    rw [if_pos masked]
    exact ok
  | false => exact (raiseAlert_bringsOnly b masked).maskOk (raiseAlert_onlyAlerts b a s).mask ok

end Sys2Proof.Machine
end

section
/-!
SUPPORT. Re-offers and withdrawals change the queue and the held-back flags alone, and SET_ALERT_MASK's effects leave
nothing of a newly suppressed kind (R130, R132).
-/

namespace Sys2Proof.Machine

/-! ## Changes of the queue and the held-back flags alone -/

/-- Of the whole state only the queue and the slot records may differ. -/
def QueueOnly (s t : State) : Prop := t = { s with alerts := t.alerts, slots := t.slots }

theorem QueueOnly.refl (s : State) : QueueOnly s s := rfl

theorem QueueOnly.trans {s t u : State} (h : QueueOnly s t) (k : QueueOnly t u) : QueueOnly s u := by
  unfold QueueOnly at h k
  rw [h] at k
  exact k

theorem reoffer_queueOnly (b : Bank) (s : State) : QueueOnly s (reoffer b s) := by
  obtain ⟨-, same⟩ | ⟨n, h, -, -, offered⟩ := reoffer_cases b s
  · rw [same]
    exact .refl s
  · rw [offered]
    rfl

theorem withdraw_queueOnly (b : Bank) (k : AlertKey) (s : State) : QueueOnly s (withdraw b k s) := by
  have left : QueueOnly s (s.setAlerts (without k s.alerts)) := rfl
  unfold withdraw
  split
  · exact .refl s
  · exact left.trans (reoffer_queueOnly b _)

/-- Withdrawals of several keys, one after the other. -/
def withdrawKeys (b : Bank) (ks : List AlertKey) (s : State) : State := ks.foldl (fun s k => withdraw b k s) s

theorem withdrawKinds_eq (b : Bank) (w : AlertKind → Bool) (s : State) :
    withdrawKinds b w s = withdrawKeys b (keysOf (s.alerts.filter fun e => w e.alert.kind)) s := rfl

theorem withdrawKeys_queueOnly (b : Bank) (ks : List AlertKey) (s : State) : QueueOnly s (withdrawKeys b ks s) := by
  induction ks generalizing s with
  | nil => exact .refl s
  | cons k ks ih => exact (withdraw_queueOnly b k s).trans (ih _)

/-! ## Newly suppressed kinds -/

/-- The kinds that a new mask suppresses and the old one did not (R132). -/
def newlySuppressed (old new : BitVec 7) (k : AlertKind) : Bool := maskHas new k && !maskHas old k

/-- The state in which SET_ALERT_MASK withdraws the queued entries of the newly suppressed kinds. -/
def masked (new : BitVec 7) (s : State) : State :=
  clearHeld (newlySuppressed s.mgmt.mask new) (s.modMgmt fun m => { m with mask := new })

theorem applyMask_eq (suppress enable : BitVec 7) (s : State) : applyMask suppress enable s =
    withdrawKinds s.acting (newlySuppressed s.mgmt.mask (maskAfter s.mgmt.mask suppress enable))
      (masked (maskAfter s.mgmt.mask suppress enable) s) := rfl

theorem applyMask_queueOnly (suppress enable : BitVec 7) (s : State) :
    QueueOnly (s.modMgmt fun m => { m with mask := maskAfter s.mgmt.mask suppress enable })
      (applyMask suppress enable s) := by
  have cleared : QueueOnly (s.modMgmt fun m => { m with mask := maskAfter s.mgmt.mask suppress enable })
      (masked (maskAfter s.mgmt.mask suppress enable) s) := rfl
  rw [applyMask_eq]
  exact cleared.trans (withdrawKeys_queueOnly _ _ _)

theorem applyMask_mask (suppress enable : BitVec 7) (s : State) :
    (applyMask suppress enable s).mgmt.mask = maskAfter s.mgmt.mask suppress enable :=
  (congrArg (fun u : State => u.mgmt.mask) (applyMask_queueOnly suppress enable s) :)

section
variable {p : AlertKind → Prop} {w : AlertKind → Bool} {s : State}

/-- A withdrawal takes every entry of its key from the queue, and can bring in a held kind (R130). -/
theorem mem_withdraw (held : HeldKindsIn p s) {b : Bank} {k : AlertKey} {e : AlertEntry}
    (mem : e ∈ (withdraw b k s).alerts) : (e ∈ s.alerts ∧ e.alert.key ≠ k) ∨ p e.alert.kind := by
  cases queued : s.entry k with
  | none =>
    unfold withdraw at mem
    rw [queued] at mem
    exact .inl ⟨mem, fun key => entry_eq_none_iff.mp queued (key ▸ List.mem_map_of_mem mem)⟩
  | some old =>
    unfold withdraw at mem
    rw [queued] at mem
    have held : HeldKindsIn p (s.setAlerts (without k s.alerts)) := held
    refine ((reoffer_bringsOnly b held).2 e mem).imp_left fun kept => ?_
    obtain ⟨mem, apart⟩ := List.mem_filter.mp kept
    exact ⟨mem, of_decide_eq_true apart⟩

theorem withdrawKeys_kinds (b : Bank) {ks : List AlertKey} (held : HeldKindsIn (w · = false) s)
    (named : ∀ e ∈ s.alerts, w e.alert.kind = true → e.alert.key ∈ ks) :
    HeldKindsIn (w · = false) (withdrawKeys b ks s)
      ∧ ∀ e ∈ (withdrawKeys b ks s).alerts, w e.alert.kind = false := by
  induction ks generalizing s with
  | nil => exact ⟨held,
      fun e he => Bool.eq_false_of_not_eq_true fun passes => absurd (named e he passes) List.not_mem_nil⟩
  | cons k ks ih =>
    refine ih (withdraw_bringsOnly b k held).1 fun e mem passes => ?_
    obtain ⟨mem, apart⟩ := (mem_withdraw held mem).resolve_right (by rw [passes]; decide)
    exact List.mem_of_ne_of_mem apart (named e mem passes)

theorem clearHeld_heldKindsIn : HeldKindsIn (w · = false) (clearHeld w s) := by
  intro n k held
  rw [clearHeld_held] at held
  split at held
  · cases held
  · next stays =>
    rw [held] at stays
    exact Bool.eq_false_of_not_eq_true stays

end

/-- Nothing of a newly suppressed kind is left (R132). -/
theorem applyMask_kinds (suppress enable : BitVec 7) (s : State) :
    let newly := newlySuppressed s.mgmt.mask (maskAfter s.mgmt.mask suppress enable)
    HeldKindsIn (newly · = false) (applyMask suppress enable s)
    ∧ ∀ e ∈ (applyMask suppress enable s).alerts, newly e.alert.kind = false := by
  rw [applyMask_eq, withdrawKinds_eq]
  exact withdrawKeys_kinds _ clearHeld_heldKindsIn fun e mem passes =>
    List.mem_map_of_mem (List.mem_filter.mpr ⟨mem, passes⟩)

/-- SET_ALERT_MASK's effects keep the form of the queue. -/
theorem FormOwing.applyMask {s : State} (form : FormOwing 0 s) (suppress enable : BitVec 7) :
    FormOwing 0 (applyMask suppress enable s) := by
  have remasked : FormOwing 0 (s.modMgmt fun m => { m with mask := maskAfter s.mgmt.mask suppress enable }) :=
    FormOwing.congr (s := s) rfl (fun _ => rfl) form
  rw [applyMask_eq]
  exact (remasked.clearHeld _).withdrawKinds _

/-- SET_ALERT_MASK's effects leave nothing suppressed by the new mask where nothing was suppressed by the old one. -/
theorem applyMask_maskOk {s : State} (ok : MaskOk s) (suppress enable : BitVec 7) :
    MaskOk (applyMask suppress enable s) := by
  obtain ⟨queued, held⟩ := ok
  have cleared : HeldKindsIn (Unsuppressed s.mgmt.mask) (masked (maskAfter s.mgmt.mask suppress enable) s) := by
    intro n k kept
    unfold masked at kept
    rw [clearHeld_held] at kept
    split at kept
    · cases kept
    · exact held n k kept
  obtain ⟨heldOld, queuedOld⟩ := withdrawKinds_bringsOnly s.acting
    (newlySuppressed s.mgmt.mask (maskAfter s.mgmt.mask suppress enable))
    (masked (maskAfter s.mgmt.mask suppress enable) s) cleared
  obtain ⟨heldNew, queuedNew⟩ := applyMask_kinds suppress enable s
  have unsuppressed : ∀ k, Unsuppressed s.mgmt.mask k →
      newlySuppressed s.mgmt.mask (maskAfter s.mgmt.mask suppress enable) k = false →
      Unsuppressed (maskAfter s.mgmt.mask suppress enable) k := by
    intro k old new
    unfold Unsuppressed at old ⊢
    unfold newlySuppressed at new
    simpa [old] using new
  unfold MaskOk
  rw [applyMask_mask]
  exact ⟨fun e mem => unsuppressed _ ((queuedOld e mem).elim (queued e) id) (queuedNew e mem),
    fun n k kept => unsuppressed k (heldOld n k kept) (heldNew n k kept)⟩

end Sys2Proof.Machine
end

section
/-!
SUPPORT. The operations of the slot engine and the restock session table keep the alert queue in its form: what they do
to it is made of raised alerts keyed by slots, withdrawals and the LAPSED of an expiry (R123 to R133).
-/

namespace Sys2Proof.Machine

/-- From an alert queue in its form, this change leads to one in its form. -/
def KeepsAlerts (s t : State) : Prop := AlertsOk s → AlertsOk t

theorem KeepsAlerts.refl (s : State) : KeepsAlerts s s := id

theorem KeepsAlerts.trans {s t u : State} (h : KeepsAlerts s t) (k : KeepsAlerts t u) : KeepsAlerts s u := k ∘ h

theorem KeepsAlerts.foldl {α : Type} (f : State → α → State) (h : ∀ s x, KeepsAlerts s (f s x)) (xs : List α)
    (s : State) : KeepsAlerts s (xs.foldl f s) := by
  induction xs generalizing s with
  | nil => exact .refl s
  | cons x xs ih => exact (h s x).trans (ih _)

/-- What the invariant reads: the queue, the held kinds and the mask. -/
theorem keepsAlerts_of_same {s t : State} (alerts : t.alerts = s.alerts)
    (held : ∀ n, (t.slot n).held = (s.slot n).held) (mask : t.mgmt.mask = s.mgmt.mask) : KeepsAlerts s t := by
  intro ok
  obtain ⟨form, queued, suppressed⟩ := alertsOk_iff.mp ok
  refine alertsOk_iff.mpr ⟨form.congr alerts held, ?_⟩
  unfold MaskOk
  rw [alerts, mask]
  exact ⟨queued, fun n k kept => suppressed n k (held n ▸ kept)⟩

/-- A change outside the queue, the slot records and the mask. -/
theorem keepsAlerts_of_aside {s t : State} (alerts : t.alerts = s.alerts) (slots : t.slots = s.slots)
    (mask : t.mgmt.mask = s.mgmt.mask) : KeepsAlerts s t :=
  keepsAlerts_of_same alerts (fun n => by unfold State.slot; rw [slots]) mask

/-- A record written with the held kind it had. -/
theorem modSlot_keepsAlerts (s : State) (n : Slot) (f : SlotLive → SlotLive)
    (held : ∀ v, (f v).held = v.held := by intro v; rfl) : KeepsAlerts s (s.modSlot n f) := by
  refine keepsAlerts_of_same rfl (fun m => ?_) rfl
  rw [State.slot_modSlot]
  split
  · next here => rw [held, here]
  · rfl

theorem QuietWork.keepsAlerts {b : Bank} {n : Slot} {s t : State} (h : QuietWork b n s t) : KeepsAlerts s t := by
  refine keepsAlerts_of_same h.alerts (fun m => ?_) h.mask
  by_cases here : m = n
  · rw [here, h.held]
  · rw [h.others m here]

/-! ## The operations of the alert queue -/

theorem raiseAlert_keepsAlerts {a : Alert} (fits : a.KeyFits) (b : Bank) (s : State) :
    KeepsAlerts s (raiseAlert b a s) := by
  intro ok
  obtain ⟨form, mask⟩ := alertsOk_iff.mp ok
  exact alertsOk_iff.mpr ⟨form.raiseAlert fits, raiseAlert_maskOk mask⟩

/-- An alert raised for a slot, of any kind that slots have. -/
theorem raiseSlot_keepsAlerts (b b' : Bank) (n : Slot) (kind : AlertKind) (r : AlertReason) (c p : Option Nat)
    (u s : State) (slotKind : kind ≠ .lapsed := by decide) :
    KeepsAlerts s (raiseAlert b (slotAlert b' n kind r c p u) s) :=
  raiseAlert_keepsAlerts (Alert.keyFits_of_slot rfl slotKind) b s

theorem raiseStock_keepsAlerts {kind : AlertKind} (slotKind : kind ≠ .lapsed) (b : Bank) (n : Slot) (s : State) :
    KeepsAlerts s (raiseStock b n kind s) := raiseSlot_keepsAlerts b b n kind _ _ _ s s slotKind

theorem withdrawSlot_keepsAlerts (b : Bank) (n : Slot) (p : AlertKind → Bool) (s : State) :
    KeepsAlerts s (withdrawSlot b n p s) := by
  intro ok
  obtain ⟨form, mask⟩ := alertsOk_iff.mp ok
  exact alertsOk_iff.mpr ⟨form.withdrawSlot n p,
    (withdrawSlot_bringsOnly b n p).maskOk (withdrawSlot_onlyAlerts b n p s).mask mask⟩

/-! ## Faults, inspections and forecasts -/

theorem raiseInspect_keepsAlerts (b : Bank) (n : Slot) (r : InspectReason) (c : Option Nat) (s : State) :
    KeepsAlerts s (raiseInspect b n r c s) :=
  (modSlot_keepsAlerts s n _).trans (raiseSlot_keepsAlerts b b n _ _ _ _ _ _)

theorem leaveMotion_keepsAlerts (b : Bank) (n : Slot) (s : State) : KeepsAlerts s (leaveMotion b n s) := by
  obtain ⟨l, p, left⟩ := leaveMotion_eq b n s
  rw [left]
  exact keepsAlerts_of_aside rfl rfl rfl

theorem clearMotion_keepsAlerts (b : Bank) (n : Slot) (s : State) : KeepsAlerts s (clearMotion b n s) := by
  have written : KeepsAlerts s (s.modSlot n fun v => { v with motion := none, motionReported := false }) :=
    modSlot_keepsAlerts s n _
  unfold clearMotion
  dsimp only
  split
  · exact written.trans (leaveMotion_keepsAlerts b n _)
  · exact written

theorem faultTest_keepsAlerts (b : Bank) (n : Slot) (s : State) : KeepsAlerts s (faultTest b n s) := by
  have set : KeepsAlerts s (faultSet b n s) :=
    (modSlot_keepsAlerts s n _).trans (clearMotion_keepsAlerts b n _)
  unfold faultTest
  split
  · split
    · rw [faultOnset_eq]
      exact set.trans (raiseSlot_keepsAlerts b b n _ _ _ _ _ _)
    · exact .refl s
  · split
    · exact modSlot_keepsAlerts s n _
    · exact .refl s

theorem arming_keepsAlerts (b : Bank) (n : Slot) (s : State) : KeepsAlerts s (arming b n s) := by
  unfold arming
  dsimp only
  split
  · exact modSlot_keepsAlerts s n _
  · split
    · exact (raiseSlot_keepsAlerts b b n _ _ _ _ s s).trans (modSlot_keepsAlerts _ n _)
    · exact .refl s

theorem recompute_keepsAlerts (b : Bank) (n : Slot) (s : State) : KeepsAlerts s (recompute b n s) :=
  (modSlot_keepsAlerts s n _).trans (arming_keepsAlerts b n _)

theorem windowClose_keepsAlerts (b : Bank) (n : Slot) (s : State) : KeepsAlerts s (windowClose b n s) :=
  (modSlot_keepsAlerts s n _).trans (recompute_keepsAlerts b n _)

theorem forecastStep_keepsAlerts (b : Bank) (n : Slot) (s : State) : KeepsAlerts s (forecastStep b n s) := by
  cases running : (s.slot n).elapsed with
  | none =>
    rw [forecastStep_of_idle running]
    exact .refl s
  | some e =>
    have counted : KeepsAlerts s (s.modSlot n fun v => { v with elapsed := some (e + 1) }) :=
      modSlot_keepsAlerts s n _
    rw [forecastStep_of_running running]
    split
    · exact counted.trans (windowClose_keepsAlerts b n _)
    · exact counted

/-! ## Stock states and repeats -/

theorem standing_ne_lapsed {mode : TriggerMode} {e : Bool} {st : StockState} {k : AlertKind}
    (h : standing mode e st = some k) : k ≠ .lapsed := by
  unfold standing at h
  rintro rfl
  dsimp only at h
  repeat' split at h
  all_goals cases h

theorem transitionAlert_ne_lapsed {cfg : SlotCfg} {old new : StockState} {k : AlertKind}
    (h : transitionAlert cfg old new = some k) : k ≠ .lapsed := by
  unfold transitionAlert at h
  cases new with
  | unknown => cases h
  | stocked =>
    dsimp only at h
    split at h <;> cases h
    exact nofun
  | low =>
    dsimp only at h
    split at h
    · cases h
    · exact standing_ne_lapsed h
  | empty =>
    dsimp only at h
    split at h
    · split at h <;> cases h
      exact nofun
    · exact standing_ne_lapsed h

theorem stockEvaluate_keepsAlerts (b : Bank) (n : Slot) (s : State) : KeepsAlerts s (stockEvaluate b n s) := by
  unfold stockEvaluate transition
  dsimp only
  split
  · exact .refl s
  · next c _ =>
    split
    · exact .refl s
    · have written : KeepsAlerts s (s.modSlot n fun v => v.transit
          (classify (b.cfg n).reorder.toNat (b.cfg n).clear.toNat c (s.slot n).stock) (freshDeadline b n s)) :=
        modSlot_keepsAlerts s n _
      split
      · next raised =>
        split
        · exact written
        · exact written.trans (raiseStock_keepsAlerts (transitionAlert_ne_lapsed raised) b n _)
      · exact written

theorem repeatStep_keepsAlerts (b : Bank) (n : Slot) (s : State) : KeepsAlerts s (repeatStep b n s) := by
  unfold repeatStep doRepeat
  dsimp only
  split
  · refine KeepsAlerts.trans ?_ (modSlot_keepsAlerts _ n _)
    split
    · next raised => exact raiseStock_keepsAlerts (standing_ne_lapsed raised) b n s
    · exact .refl s
  · exact .refl s

theorem slotsPass_keepsAlerts (b : Bank) (s : State) : KeepsAlerts s (slotsPass b s) :=
  .foldl _ (fun s n => (repeatStep_keepsAlerts b n s).trans (forecastStep_keepsAlerts b n _)) _ s

/-! ## Counting -/

theorem ambiguousCount_keepsAlerts (b : Bank) (n : Slot) (s : State) : KeepsAlerts s (ambiguousCount b n s) := by
  have counted : KeepsAlerts s (s.modSlot n fun v => { v with streak := v.streak + 1 }) :=
    modSlot_keepsAlerts s n _
  unfold ambiguousCount
  dsimp only
  split
  · split
    · exact counted.trans (raiseInspect_keepsAlerts b n _ _ _)
    · exact counted
  · exact .refl s

theorem doPutBack_keepsAlerts (b : Bank) (n : Slot) (k c : Nat) (s : State) : KeepsAlerts s (doPutBack b n k c s) := by
  unfold doPutBack
  dsimp only
  split
  · exact (modSlot_keepsAlerts s n _).trans (raiseInspect_keepsAlerts b n _ _ _)
  · exact modSlot_keepsAlerts s n _

theorem classifyChange_keepsAlerts (b : Bank) (n : Slot) (old c : Nat) (s : State) :
    KeepsAlerts s (classifyChange b n old c s) := by
  have added : ∀ id r, KeepsAlerts s (s.setSession id r) := fun _ _ => keepsAlerts_of_aside rfl rfl rfl
  unfold classifyChange
  split
  · exact modSlot_keepsAlerts s n _
  · split
    · split
      · exact (added _ _).trans (modSlot_keepsAlerts _ n _)
      · exact doPutBack_keepsAlerts b n _ c s
    · exact .refl s

theorem handOff_keepsAlerts (b : Bank) (n : Slot) (s : State) : KeepsAlerts s (handOff b n s) :=
  (stockEvaluate_keepsAlerts b n s).trans (recompute_keepsAlerts b n _)

theorem firstCount_keepsAlerts (b : Bank) (n : Slot) (c : Nat) (s : State) : KeepsAlerts s (firstCount b n c s) :=
  modSlot_keepsAlerts s n _ fun v => by
    unfold SlotLive.startForecast
    split <;> rfl

theorem acceptedCount_keepsAlerts (b : Bank) (n : Slot) (c : Nat) (s : State) :
    KeepsAlerts s (acceptedCount b n c s) := by
  have reset : KeepsAlerts s (s.modSlot n fun v => { v with streak := 0 }) := modSlot_keepsAlerts s n _
  unfold acceptedCount
  dsimp only
  split
  · exact (reset.trans (firstCount_keepsAlerts b n c _)).trans (handOff_keepsAlerts b n _)
  · exact ((reset.trans (classifyChange_keepsAlerts b n _ c _)).trans (modSlot_keepsAlerts _ n _)).trans
      (handOff_keepsAlerts b n _)

theorem counting_keepsAlerts (b : Bank) (n : Slot) (g : Int) (s : State) : KeepsAlerts s (counting b n g s) := by
  unfold counting
  split
  · exact acceptedCount_keepsAlerts b n _ s
  · exact ambiguousCount_keepsAlerts b n s

/-! ## Settle windows and samples -/

theorem motionLimitTest_keepsAlerts (b : Bank) (n : Slot) (s : State) : KeepsAlerts s (motionLimitTest b n s) := by
  unfold motionLimitTest
  dsimp only
  split
  · exact .refl s
  · split
    · exact (modSlot_keepsAlerts s n _).trans (raiseInspect_keepsAlerts b n _ _ _)
    · exact .refl s

theorem unsettledClose_keepsAlerts (b : Bank) (n : Slot) (s : State) : KeepsAlerts s (unsettledClose b n s) := by
  have offered : ∀ t, KeepsAlerts t (offerNodes b n t) := fun t => by
    obtain ⟨l, k, offers⟩ := offerNodes_eq b n t
    rw [offers]
    exact keepsAlerts_of_aside rfl rfl rfl
  exact ((modSlot_keepsAlerts s n _).trans (offered _)).trans (motionLimitTest_keepsAlerts b n _)

theorem settledClose_keepsAlerts (b : Bank) (n : Slot) (g : Int) (s : State) :
    KeepsAlerts s (settledClose b n g s) :=
  (((modSlot_keepsAlerts s n _).trans (clearMotion_keepsAlerts b n _)).trans
    (modSlot_keepsAlerts _ n _)).trans (counting_keepsAlerts b n g _)

theorem takeSample_keepsAlerts (b : Bank) (n : Slot) (x : Int) (s : State) : KeepsAlerts s (takeSample b n x s) := by
  unfold takeSample
  dsimp only
  split
  · exact modSlot_keepsAlerts s n _
  · exact settledClose_keepsAlerts b n _ s
  · exact unsettledClose_keepsAlerts b n s

theorem slotReply_keepsAlerts (b : Bank) (cs : List Chan) (n : Slot) (s : State) :
    KeepsAlerts s (slotReply b cs n s) := by
  have tested := faultTest_keepsAlerts b n s
  unfold slotReply
  dsimp only
  split
  · exact tested
  · split
    · exact (tested.trans (modSlot_keepsAlerts _ n _)).trans (takeSample_keepsAlerts b n _ _)
    · exact tested.trans (modSlot_keepsAlerts _ n _)

theorem handleSample_keepsAlerts (node : Node) (payload : List Byte) (s : State) :
    KeepsAlerts s (handleSample node payload s) := by
  have read : KeepsAlerts s (readingsTaken s.acting node payload s).1 := by
    unfold readingsTaken
    rw [readings_eq]
    exact keepsAlerts_of_aside rfl rfl rfl
  exact read.trans (.foldl _ (fun s n => slotReply_keepsAlerts _ _ n s) _ _)

theorem nodeSilent_keepsAlerts (b : Bank) (node : Node) (s : State) : KeepsAlerts s (nodeSilent b node s) :=
  .foldl _ (fun s n => faultTest_keepsAlerts b n s) _ s

/-! ## Acknowledgements, resets to UNKNOWN and sessions -/

theorem acknowledge_keepsAlerts (b : Bank) (n : Slot) (s : State) : KeepsAlerts s (acknowledge b n s) :=
  (modSlot_keepsAlerts s n _).trans (withdrawSlot_keepsAlerts b n _ _)

theorem zeroReset_keepsAlerts (b : Bank) (n : Slot) (s : State) : KeepsAlerts s (zeroReset b n s) := by
  have reset : KeepsAlerts s (s.modSlot n SlotLive.toUnknown) := modSlot_keepsAlerts s n _
  unfold zeroReset
  dsimp only
  refine KeepsAlerts.trans ?_ (withdrawSlot_keepsAlerts b n _ _)
  split
  · exact reset.trans (leaveMotion_keepsAlerts b n _)
  · exact reset

theorem closeSlot_keepsAlerts (b : Bank) (n : Slot) (s : State) : KeepsAlerts s (closeSlot b n s) := by
  obtain ⟨u, before, after⟩ := closeSlot_raises b n s
  refine (before.keepsAlerts.trans ?_).trans after.keepsAlerts
  cases raised : (s.slot n).closeAlert (b.cfg n) with
  | none => exact .refl u
  | some k => exact raiseStock_keepsAlerts (closeAlert_kind raised).2 b n u

theorem lapsedAlert_keyFits (id : SessionId) (r : Session) (s : State) : (lapsedAlert id r s).KeyFits :=
  ⟨fun _ => ⟨id, rfl⟩, fun _ => rfl⟩

theorem closeSession_keepsAlerts (b : Bank) (id : SessionId) (r : Session) (expired : Bool) (s : State) :
    KeepsAlerts s (closeSession b id r expired s) := by
  have free : KeepsAlerts s (s.setSession id none) := keepsAlerts_of_aside rfl rfl rfl
  have freed : KeepsAlerts s (freed b id r expired s) := by
    cases expired with
    | false => exact free
    | true => exact free.trans (raiseAlert_keepsAlerts (lapsedAlert_keyFits id r _) b _)
  rw [closeSession_eq]
  exact freed.trans (.foldl _ (fun s n => closeSlot_keepsAlerts b n s) _ _)

theorem expireOne_keepsAlerts (b : Bank) (id : SessionId) (s : State) : KeepsAlerts s (expireOne b id s) := by
  unfold expireOne
  split
  · split
    · exact closeSession_keepsAlerts b id _ true s
    · exact .refl s
  · exact .refl s

theorem sessionsPass_keepsAlerts (b : Bank) (s : State) : KeepsAlerts s (sessionsPass b s) :=
  .foldl _ (fun s id => expireOne_keepsAlerts b id s) _ s

theorem minuteWork_keepsAlerts (o : TickOrder) (s : State) : KeepsAlerts s (minuteWork o s) := by
  cases o with
  | sessionsFirst => exact (sessionsPass_keepsAlerts _ s).trans (slotsPass_keepsAlerts _ _)
  | slotsFirst => exact (slotsPass_keepsAlerts _ s).trans (sessionsPass_keepsAlerts _ _)
  | separately =>
    exact keepsAlerts_of_same rfl (t := countWindows s) (fun n => by rw [countWindows_slot]) rfl

/-! ## Completion of a switch -/

theorem changedSlot_keepsAlerts (b : Bank) (n : Slot) (s : State) : KeepsAlerts s (changedSlot b n s) := by
  have reset : KeepsAlerts s (s.modSlot n fun v => { v.toUnknown with fresh := 0 }) :=
    modSlot_keepsAlerts s n _
  have withdrawn := reset.trans (withdrawSlot_keepsAlerts b n (fun k => k ≠ .fault) _)
  unfold changedSlot changedFault
  dsimp only
  split
  · exact withdrawn.trans (faultTest_keepsAlerts b n _)
  · exact withdrawn.trans (modSlot_keepsAlerts _ n _)

theorem keptSlot_keepsAlerts (old b : Bank) (n : Slot) (s : State) : KeepsAlerts s (keptSlot old b n s) := by
  have evaluated : ∀ t, KeepsAlerts s t → KeepsAlerts s
      (if (b.cfg n).enabled && (t.slot n).stock ≠ .unknown then stockEvaluate b n t else t) := by
    intro t before
    split
    · exact before.trans (stockEvaluate_keepsAlerts b n t)
    · exact before
  have restarted : ∀ t, KeepsAlerts t (restartForecast b n t) := fun t =>
    (modSlot_keepsAlerts t n _).trans (recompute_keepsAlerts b n _)
  unfold keptSlot
  dsimp only
  split
  · exact (evaluated _ (modSlot_keepsAlerts s n _)).trans (restarted _)
  · exact evaluated _ (modSlot_keepsAlerts s n _)

theorem completeSwitch_keepsAlerts (target : BankId) (s : State) : KeepsAlerts s (completeSwitch target s) := by
  have slots : KeepsAlerts s (completeSlots target s) := .foldl _ (fun s' n => by
    unfold completeSlot
    split
    · exact changedSlot_keepsAlerts _ n s'
    · exact keptSlot_keepsAlerts _ _ n s') _ s
  rw [completeSwitch_eq]
  exact slots.trans (keepsAlerts_of_aside rfl rfl rfl)

end Sys2Proof.Machine
end

section
/-!
PROOFS. Every command keeps the alert queue in its form (O57): the arbiter and the trunk reach it through samples,
faults, ZERO resets and switch completions, the requests through sessions, acknowledgements and the mask, the uplink
through the departure of an ALERT frame.
-/

namespace Sys2Proof.Machine

/-! ## The trunk -/

/-- The channels' part of sending or ending a ZERO. -/
theorem flagChans_keepsAlerts (cs : List Chan) (x : Bool) (s : State) :
    KeepsAlerts s (cs.foldl (fun s c => s.modChan c fun r => { r with rezero := x }) s) := by
  refine .foldl _ (fun s c => ?_) cs s
  exact keepsAlerts_of_aside rfl rfl rfl

theorem zeroSend_keepsAlerts (z : RezeroSet) (s : State) : KeepsAlerts s (zeroSend z s) := by
  unfold zeroSend
  dsimp only
  refine (flagChans_keepsAlerts z.chans true s).trans (.foldl _ (fun s n => ?_) z.slots _)
  exact modSlot_keepsAlerts s n _

theorem zeroEnd_keepsAlerts (z : RezeroSet) (ok : Bool) (s : State) : KeepsAlerts s (zeroEnd z ok s) := by
  have flags := flagChans_keepsAlerts z.chans false s
  unfold zeroEnd
  dsimp only
  split
  · exact flags.trans (.foldl _ (fun s n => zeroReset_keepsAlerts _ n s) _ _)
  · exact flags

theorem startForward_keepsAlerts (f : Frame) (rest : List Frame) (s : State) :
    KeepsAlerts s (startForward f rest s) := by
  unfold startForward
  dsimp only
  refine KeepsAlerts.trans ?_ (keepsAlerts_of_aside rfl rfl rfl)
  split
  · exact zeroSend_keepsAlerts _ s
  · exact .refl s

theorem advanceRoster_keepsAlerts (s : State) : KeepsAlerts s (advanceRoster s).1 := by
  have turned : KeepsAlerts s (s.modTrunk fun t => { t with rosterPtr := 0 }) := keepsAlerts_of_aside rfl rfl rfl
  unfold advanceRoster
  split
  · exact keepsAlerts_of_aside rfl rfl rfl
  · dsimp only
    split
    · exact turned.trans (completeSwitch_keepsAlerts _ _)
    · exact turned

theorem keepsAlerts_decides : Decides KeepsAlerts where
  refl := .refl
  trans := .trans
  poll _ _ _ := keepsAlerts_of_aside rfl rfl rfl
  forward f rest s _ := startForward_keepsAlerts f rest s
  advance := advanceRoster_keepsAlerts
  mark _ := keepsAlerts_of_aside rfl rfl rfl

theorem arbitrate_keepsAlerts (s : State) : KeepsAlerts s (arbitrate s) := keepsAlerts_decides.arbitrate s

theorem modTrunk_keepsAlerts (s : State) (f : Trunk → Trunk) : KeepsAlerts s (s.modTrunk f) :=
  keepsAlerts_of_aside rfl rfl rfl

theorem modLink_keepsAlerts (s : State) (f : AisleLink → AisleLink) : KeepsAlerts s (s.modLink f) :=
  keepsAlerts_of_aside rfl rfl rfl

theorem modCounters_keepsAlerts (s : State) (f : Counters → Counters) : KeepsAlerts s (s.modCounters f) :=
  keepsAlerts_of_aside rfl rfl rfl

theorem endPoll_keepsAlerts (m : Bool) (s : State) : KeepsAlerts s (endPoll m s) := by
  have ended : KeepsAlerts s s.endTxn := modTrunk_keepsAlerts s _
  unfold endPoll
  dsimp only
  split
  · exact ended.trans (arbitrate_keepsAlerts _)
  · exact ((ended.trans (modTrunk_keepsAlerts _ _)).trans (advanceRoster_keepsAlerts _)).trans
      (arbitrate_keepsAlerts _)

theorem pollMissed_keepsAlerts (node : Node) (m : Bool) (s : State) : KeepsAlerts s (pollMissed node m s) := by
  unfold pollMissed
  dsimp only
  refine KeepsAlerts.trans ?_ (endPoll_keepsAlerts m _)
  split
  · exact ((modTrunk_keepsAlerts s _).trans (modTrunk_keepsAlerts _ _)).trans (nodeSilent_keepsAlerts _ node _)
  · exact modTrunk_keepsAlerts s _

theorem pollAccepted_keepsAlerts (node : Node) (m : Bool) (payload : List Byte) (s : State) :
    KeepsAlerts s (pollAccepted node m payload s) :=
  ((modTrunk_keepsAlerts s _).trans (handleSample_keepsAlerts node payload _)).trans (endPoll_keepsAlerts m _)

theorem endForward_keepsAlerts (f : Frame) (z : Option RezeroSet) (ok : Bool) (s : State) :
    KeepsAlerts s (endForward f z ok s) := by
  have ended : KeepsAlerts s s.endTxn := modTrunk_keepsAlerts s _
  have placed : KeepsAlerts s (placeReturn f s.endTxn) := by
    refine ended.trans ?_
    unfold placeReturn
    split
    · exact modLink_keepsAlerts _ _
    · exact modCounters_keepsAlerts _ _
  unfold endForward
  dsimp only
  refine KeepsAlerts.trans ?_ (arbitrate_keepsAlerts _)
  split
  · exact placed.trans (zeroEnd_keepsAlerts _ ok _)
  · exact placed

theorem lateFrame_keepsAlerts (f : Frame) (s : State) : KeepsAlerts s (lateFrame f s) := by
  unfold lateFrame
  split
  · split
    · exact modTrunk_keepsAlerts s _
    · exact .refl s
  · exact .refl s

theorem windowFrame_keepsAlerts (x : Transaction) (f : Frame) (s : State) : KeepsAlerts s (windowFrame x f s) := by
  unfold windowFrame
  split
  · split
    · exact pollAccepted_keepsAlerts _ _ _ s
    · exact modTrunk_keepsAlerts s _
    · exact pollMissed_keepsAlerts _ _ s
  · split
    · exact endForward_keepsAlerts _ _ _ s
    · exact .refl s
  · exact .refl s

theorem trunkFrame_keepsAlerts (f : Frame) (s : State) : KeepsAlerts s (trunkFrame f s) := by
  unfold trunkFrame
  split
  · split
    · exact lateFrame_keepsAlerts f s
    · exact windowFrame_keepsAlerts _ f s
  · exact lateFrame_keepsAlerts f s

theorem trunkAbandon_keepsAlerts (s : State) : KeepsAlerts s (trunkAbandon s) := by
  unfold trunkAbandon
  split
  · exact pollMissed_keepsAlerts _ _ s
  · exact .refl s

theorem trunkByte_keepsAlerts (s : State) (b : RxByte) : KeepsAlerts s (trunkByte s b) := by
  refine (modTrunk_keepsAlerts s fun t => { t with rx := (s.trunk.rx.receive b).1 }).trans ?_
  show KeepsAlerts _ (trunkEvent (s.trunk.rx.receive b).2 _)
  cases (s.trunk.rx.receive b).2 with
  | nothing => exact .refl _
  | frame f => exact trunkFrame_keepsAlerts f _
  | overLength => exact trunkAbandon_keepsAlerts _
  | framingInHunt => exact .refl _
  | framingInFrame => exact trunkAbandon_keepsAlerts _

/-! ## The aisle link -/

theorem dispatch_keepsAlerts (f : Frame) (s : State) : KeepsAlerts s (dispatch f s) := by
  unfold dispatch queueRequest queueForward
  split
  · split
    · exact keepsAlerts_of_aside rfl rfl rfl
    · exact modCounters_keepsAlerts s _
  · split
    · split
      · exact (modTrunk_keepsAlerts s _).trans (arbitrate_keepsAlerts _)
      · exact modCounters_keepsAlerts s _
    · exact modCounters_keepsAlerts s _

theorem linkByte_keepsAlerts (s : State) (b : RxByte) : KeepsAlerts s (linkByte s b) := by
  refine (modLink_keepsAlerts s fun l => { l with rx := (s.link.rx.receive b).1 }).trans ?_
  show KeepsAlerts _ (linkEvent (s.link.rx.receive b).2 _)
  cases (s.link.rx.receive b).2 with
  | nothing => exact .refl _
  | frame f =>
    unfold linkEvent
    dsimp only
    split
    · exact dispatch_keepsAlerts f _
    · exact modCounters_keepsAlerts _ _
  | overLength => exact modCounters_keepsAlerts _ _
  | framingInHunt => exact modCounters_keepsAlerts _ _
  | framingInFrame => exact modCounters_keepsAlerts _ _

/-- The departure of an ALERT frame owes a re-offer for each entry that leaves, and pays them (R131, R134). -/
theorem sendAlerts_keepsAlerts (s : State) : KeepsAlerts s (sendAlerts s) := by
  intro ok
  obtain ⟨form, mask⟩ := alertsOk_iff.mp ok
  have count : (s.alerts.drop alertFrameMax).length + (s.alerts.take alertFrameMax).length = s.alerts.length := by
    rw [List.length_drop, List.length_take]
    omega
  have left := form.leave (List.drop_sublist alertFrameMax s.alerts) count
  have kept : ∀ e ∈ s.alerts.drop alertFrameMax, e ∈ s.alerts := fun e => List.mem_of_mem_drop
  unfold sendAlerts
  dsimp only
  generalize sent : ((s.setAlerts (s.alerts.drop alertFrameMax)).send _ false).modLink _ = u
  have alerts : u.alerts = s.alerts.drop alertFrameMax := sent ▸ rfl
  have slots : ∀ n, u.slot n = s.slot n := fun n => sent ▸ rfl
  have same : u.mgmt.mask = s.mgmt.mask := sent ▸ rfl
  have owing : FormOwing (s.alerts.take alertFrameMax).length u :=
    FormOwing.congr (s := s.setAlerts (s.alerts.drop alertFrameMax)) alerts
      (fun n => congrArg SlotLive.held (slots n)) left
  have brings : BringsOnly (Unsuppressed s.mgmt.mask) s u := fun held =>
    ⟨fun n k kept => held n k (slots n ▸ kept), fun e he => .inl (kept e (alerts ▸ he))⟩
  exact alertsOk_iff.mpr ⟨owing.reoffers, (brings.trans (reoffers_bringsOnly _ _ u)).maskOk
    ((reoffers_onlyAlerts _ _ u).mask.trans same) mask⟩

/-! ## Requests -/

theorem applyMask_keepsAlerts (suppress enable : BitVec 7) (s : State) :
    KeepsAlerts s (applyMask suppress enable s) := by
  intro ok
  obtain ⟨form, mask⟩ := alertsOk_iff.mp ok
  exact alertsOk_iff.mpr ⟨form.applyMask suppress enable, applyMask_maskOk mask suppress enable⟩

theorem takeRequest_keepsAlerts (code : Byte) (k : Source → List Byte → State → Answer)
    (h : ∀ src args s, KeepsAlerts s (k src args s).state) (s : State) : KeepsAlerts s (takeRequest code k s) := by
  obtain same | ⟨f, src, args, -, taken⟩ := takeRequest_cases s code k
  · rw [same]
    exact .refl s
  · have dropped : KeepsAlerts s s.dropRequest := keepsAlerts_of_aside rfl rfl rfl
    have answered : KeepsAlerts s ((k src args s.dropRequest).state.respond f.tag code
        (k src args s.dropRequest).status (k src args s.dropRequest).results) :=
      (dropped.trans (h src args _)).trans (keepsAlerts_of_aside rfl rfl rfl)
    rw [taken]
    unfold finish
    dsimp only
    split
    · exact answered.trans (arbitrate_keepsAlerts _)
    · exact answered

theorem loadRequest_keepsAlerts (src : Source) (args : List Byte) (s : State) :
    KeepsAlerts s (loadRequest src args s).state := by
  have record : ∀ a t bank acc r, KeepsAlerts acc.1 (loadRecord src a t bank acc r).1 := by
    intro a t bank acc r
    obtain ⟨b, c, eq⟩ := loadRecord_eq src a t bank acc.1 acc.2 r
    rw [eq]
    exact keepsAlerts_of_aside rfl rfl rfl
  have records : ∀ a t bank (rs : List (List Byte)) (acc : State × LoadProgress),
      KeepsAlerts acc.1 (rs.foldl (loadRecord src a t bank) acc).1 := by
    intro a t bank rs
    induction rs with
    | nil => exact fun acc => .refl acc.1
    | cons r rs ih => exact fun acc => (record a t bank acc r).trans (ih _)
  unfold loadRequest
  dsimp only
  split
  · exact .refl s
  · split
    · exact records _ _ _ _ (s, _)
    · exact .refl s

theorem copyRequest_keepsAlerts (src : Source) (args : List Byte) (s : State) :
    KeepsAlerts s (copyRequest src args s).state := by
  unfold copyRequest
  repeat' split
  all_goals exact keepsAlerts_of_aside rfl rfl rfl

theorem readRecordsRequest_keepsAlerts (src : Source) (args : List Byte) (s : State) :
    KeepsAlerts s (readRecordsRequest src args s).state := by
  unfold readRecordsRequest
  dsimp only
  repeat' split
  all_goals exact .refl s

theorem switchRequest_keepsAlerts (src : Source) (args : List Byte) (s : State) :
    KeepsAlerts s (switchRequest src args s).state := by
  unfold switchRequest switchAnswer pendSwitch
  split
  · exact .refl s
  · split
    · exact keepsAlerts_of_aside rfl rfl rfl
    · split
      · split
        · exact keepsAlerts_of_aside rfl rfl rfl
        · exact .refl s
      · split
        · exact .refl s
        · split
          · exact completeSwitch_keepsAlerts _ s
          · exact keepsAlerts_of_aside rfl rfl rfl

theorem cancelRequest_keepsAlerts (src : Source) (args : List Byte) (s : State) :
    KeepsAlerts s (cancelRequest src args s).state := by
  unfold cancelRequest switchAnswer
  repeat' split
  all_goals exact keepsAlerts_of_aside rfl rfl rfl

theorem openSession_keepsAlerts (id : SessionId) (r : Session) (s : State) : KeepsAlerts s (openSession id r s) := by
  have opened : KeepsAlerts s (s.setSession id (some r)) := keepsAlerts_of_aside rfl rfl rfl
  refine opened.trans (.foldl _ (fun s n => ?_) _ _)
  exact modSlot_keepsAlerts s n _

theorem openRequest_keepsAlerts (src : Source) (args : List Byte) (s : State) :
    KeepsAlerts s (openRequest src args s).state := by
  unfold openRequest
  dsimp only
  split
  · exact .refl s
  · split
    · exact .refl s
    · split
      · exact keepsAlerts_of_aside rfl rfl rfl
      · split
        · exact .refl s
        · split
          · exact .refl s
          · exact openSession_keepsAlerts _ _ s

theorem closeRequest_keepsAlerts (src : Source) (args : List Byte) (s : State) :
    KeepsAlerts s (closeRequest src args s).state := by
  unfold closeRequest
  split
  · dsimp only
    split
    · exact .refl s
    · split
      · exact keepsAlerts_of_aside rfl rfl rfl
      · exact closeSession_keepsAlerts _ _ _ _ s
  · exact .refl s

theorem ackRequest_keepsAlerts (src : Source) (args : List Byte) (s : State) :
    KeepsAlerts s (ackRequest src args s).state := by
  have one : ∀ (acc : State × List Status) n, KeepsAlerts acc.1 (ackOne src acc n).1 := by
    intro acc n
    unfold ackOne
    split
    · exact acknowledge_keepsAlerts _ n _
    · exact keepsAlerts_of_aside rfl rfl rfl
  have each : ∀ (ns : List Slot) (acc : State × List Status), KeepsAlerts acc.1 (ns.foldl (ackOne src) acc).1 := by
    intro ns
    induction ns with
    | nil => exact fun acc => .refl acc.1
    | cons n ns ih => exact fun acc => (one acc n).trans (ih _)
  unfold ackRequest
  split
  · exact .refl s
  · exact each _ (s, [])

theorem maskRequest_keepsAlerts (src : Source) (args : List Byte) (s : State) :
    KeepsAlerts s (maskRequest src args s).state := by
  unfold maskRequest
  split
  · exact .refl s
  · split
    · exact keepsAlerts_of_aside rfl rfl rfl
    · exact applyMask_keepsAlerts _ _ s

/-- The requests on zones, rights and the lock (R182 to R184) stay outside the alert queue. -/
theorem zoneRequests_keepAlerts (src : Source) (args : List Byte) (s : State) :
    KeepsAlerts s (zoneRequest src args s).state ∧ KeepsAlerts s (rightsRequest src args s).state
    ∧ KeepsAlerts s (lockRequest src args s).state := by
  unfold zoneRequest rightsRequest lockRequest zoneAnswer
  refine ⟨?_, ?_, ?_⟩
  all_goals repeat' split
  all_goals exact keepsAlerts_of_aside rfl rfl rfl

/-- The requests on counters, captures and the reset (R174 to R176) stay outside the alert queue. -/
theorem adminRequests_keepAlerts (src : Source) (args : List Byte) (s : State) :
    KeepsAlerts s (clearRequest src args s).state ∧ KeepsAlerts s (faultsRequest src args s).state
    ∧ KeepsAlerts s (softResetRequest src args s).state := by
  unfold clearRequest faultsRequest softResetRequest
  refine ⟨?_, ?_, ?_⟩
  all_goals split
  all_goals exact keepsAlerts_of_aside rfl rfl rfl

theorem listRequest_keepsAlerts (f : State → Fin 256 → List Byte) (args : List Byte) (s : State) :
    KeepsAlerts s (listRequest f args s).state := by
  unfold listRequest
  split
  · exact .refl s
  · exact .refl s

/-! ## All commands -/

theorem tick_keepsAlerts (o : TickOrder) (s : State) : KeepsAlerts s (tick o s) := by
  have second : KeepsAlerts s (secondTick s) := keepsAlerts_of_aside rfl rfl rfl
  have minute : KeepsAlerts (secondTick s)
      { secondTick s with time := { (secondTick s).time with minutes := (secondTick s).time.minutes + 1 } } :=
    keepsAlerts_of_aside rfl rfl rfl
  unfold tick
  split
  · exact (second.trans minute).trans (minuteWork_keepsAlerts o _)
  · exact second

/-- An empty queue with no slot held back has its form. -/
theorem alertsOk_of_empty {t : State} (alerts : t.alerts = []) (slots : ∀ n, t.slot n = SlotLive.reset) :
    AlertsOk t := by
  have none : ∀ n, (t.slot n).held = none := fun n => by rw [slots]; rfl
  have empty : ∀ e, e ∉ t.alerts := fun e => by rw [alerts]; exact List.not_mem_nil
  have queue : QueueForm t.alerts := ⟨by rw [alerts]; exact Nat.zero_le _, by rw [alerts]; exact .nil,
    by rw [alerts]; exact .nil, fun e he => absurd he (empty e)⟩
  refine alertsOk_iff.mpr ⟨.of_none_held queue none 0, fun e he => absurd he (empty e), fun n k held => ?_⟩
  rw [none n] at held
  cases held

theorem resetPoint_keepsAlerts (s t : State) (other : KeepsAlerts s t) :
    KeepsAlerts s (if s.atResetPoint then s.afterSoftReset else t) := by
  split
  · exact fun _ => alertsOk_of_empty rfl (afterSoftReset_slot s)
  · exact other

/-- Every command keeps the alert queue in its form. -/
theorem exec_keepsAlerts {c : Instr} {s t : State} (h : exec c s = .next t) : KeepsAlerts s t := by
  cases c with
  | powerOn strap => cases h; exact fun _ => alertsOk_powered _ _ _
  | pinReset strap => cases h; exact fun _ => alertsOk_powered _ _ _
  | oneSecondTick o => cases h; exact tick_keepsAlerts o s
  | minuteTick o =>
    cases h
    split
    · exact tick_keepsAlerts o s
    · exact .refl s
  | repeatAlert n => cases h; exact repeatStep_keepsAlerts _ n s
  | sessionExpiry id => cases h; exact expireOne_keepsAlerts _ id s
  | forecastWindowClose n =>
    cases h
    split
    · exact windowClose_keepsAlerts _ n s
    · exact .refl s
  | alinkFrameReceived bytes => cases h; exact .foldl _ linkByte_keepsAlerts bytes s
  | alinkGapAbandon => cases h; split <;> exact keepsAlerts_of_aside rfl rfl rfl
  | loadRecords => cases h; exact takeRequest_keepsAlerts _ _ loadRequest_keepsAlerts s
  | readRecords => cases h; exact takeRequest_keepsAlerts _ _ readRecordsRequest_keepsAlerts s
  | copyBank => cases h; exact takeRequest_keepsAlerts _ _ copyRequest_keepsAlerts s
  | switchBank => cases h; exact takeRequest_keepsAlerts _ _ switchRequest_keepsAlerts s
  | cancelSwitch => cases h; exact takeRequest_keepsAlerts _ _ cancelRequest_keepsAlerts s
  | openRestock => cases h; exact takeRequest_keepsAlerts _ _ openRequest_keepsAlerts s
  | closeRestock => cases h; exact takeRequest_keepsAlerts _ _ closeRequest_keepsAlerts s
  | ackSlot => cases h; exact takeRequest_keepsAlerts _ _ ackRequest_keepsAlerts s
  | setAlertMask => cases h; exact takeRequest_keepsAlerts _ _ maskRequest_keepsAlerts s
  | setZone => cases h; exact takeRequest_keepsAlerts _ _ (fun src args s => (zoneRequests_keepAlerts src args s).1) s
  | setSourceRights =>
    cases h; exact takeRequest_keepsAlerts _ _ (fun src args s => (zoneRequests_keepAlerts src args s).2.1) s
  | lockZones =>
    cases h; exact takeRequest_keepsAlerts _ _ (fun src args s => (zoneRequests_keepAlerts src args s).2.2) s
  | readStatus => cases h; exact takeRequest_keepsAlerts _ _ (fun _ _ s => .refl s) s
  | readSlot => cases h; exact takeRequest_keepsAlerts _ _ (fun _ => listRequest_keepsAlerts slotBytes) s
  | readChannel => cases h; exact takeRequest_keepsAlerts _ _ (fun _ => listRequest_keepsAlerts chanBytes) s
  | readNodes => cases h; exact takeRequest_keepsAlerts _ _ (fun _ _ s => .refl s) s
  | readCounters => cases h; exact takeRequest_keepsAlerts _ _ (fun _ _ s => .refl s) s
  | clearCounters =>
    cases h; exact takeRequest_keepsAlerts _ _ (fun src args s => (adminRequests_keepAlerts src args s).1) s
  | readFaults =>
    cases h; exact takeRequest_keepsAlerts _ _ (fun src args s => (adminRequests_keepAlerts src args s).2.1) s
  | softReset =>
    cases h; exact takeRequest_keepsAlerts _ _ (fun src args s => (adminRequests_keepAlerts src args s).2.2) s
  | undefinedRequest =>
    cases h
    repeat' split
    all_goals exact keepsAlerts_of_aside rfl rfl rfl
  | resetPoint => cases h; exact resetPoint_keepsAlerts s s (.refl s)
  | responsePartGrant =>
    cases h
    repeat' split
    all_goals exact keepsAlerts_of_aside rfl rfl rfl
  | returnFrameGrant =>
    cases h
    repeat' split
    all_goals exact keepsAlerts_of_aside rfl rfl rfl
  | alertGrant =>
    cases h
    split
    · exact sendAlerts_keepsAlerts s
    · exact .refl s
  | uplinkFrameDone => cases h; exact resetPoint_keepsAlerts s _ (modLink_keepsAlerts s _)
  | trunkFrameSent =>
    cases h
    split
    · exact (modTrunk_keepsAlerts s _).trans (arbitrate_keepsAlerts _)
    · exact modTrunk_keepsAlerts s _
    · exact .refl s
  | trunkFrameReceived bytes => cases h; exact .foldl _ trunkByte_keepsAlerts bytes s
  | trunkGapAbandon =>
    have cut := modTrunk_keepsAlerts s fun t => { t with rx := Assembler.reset }
    cases h
    split
    · exact cut.trans (trunkAbandon_keepsAlerts _)
    · exact cut
  | replyWindowClose =>
    have cut := modTrunk_keepsAlerts s fun t => { t with rx := if t.rx.inFrame then Assembler.reset else t.rx }
    cases h
    split
    · exact cut.trans (pollMissed_keepsAlerts _ _ _)
    · exact cut.trans (endForward_keepsAlerts _ _ _ _)
    · exact .refl s
  | listenPeriodEnd =>
    cases h
    split
    · exact (modTrunk_keepsAlerts s _).trans (arbitrate_keepsAlerts _)
    · exact .refl s
  | huntByteReceived b =>
    cases h
    split
    · exact .refl s
    · exact linkByte_keepsAlerts s b
  | trunkFrameAbandoned b =>
    cases h
    split
    · exact trunkByte_keepsAlerts s b
    · exact trunkByte_keepsAlerts s b
    · exact .refl s

/-- Settles O57: a step is the front command, or idling, and each keeps the form of the queue and of the held-back
slots, and lets nothing suppressed in. -/
theorem everyStepKeepsTheAlertQueueInvariant : Obligations.EveryStepKeepsTheAlertQueueInvariant := by
  unfold Obligations.EveryStepKeepsTheAlertQueueInvariant
  intro s t ok h
  unfold step at h
  split at h
  · next c rest _ => exact exec_keepsAlerts h (keepsAlerts_of_aside (s := s) rfl rfl rfl ok)
  · cases h
    exact ok

end Sys2Proof.Machine
end

section
/-!
PROOFS. The operations of the alert queue (O36 to O38): what a raised alert does to the queue, the re-offer after a
withdrawal, and SET_ALERT_MASK.
-/

namespace Sys2Proof.Machine

/-! ## Raising without held-back slots -/

/-- Where no slot is held back a withdrawal only takes the entry from the queue. -/
theorem withdraw_of_none_held {b : Bank} {k : AlertKey} {e : AlertEntry} {s : State}
    (none : ∀ n, (s.slot n).held = none) (queued : s.entry k = some e) :
    withdraw b k s = s.setAlerts (without k s.alerts) := by
  unfold withdraw
  rw [queued]
  exact reoffer_of_none_held none

theorem recoverable_iff {k : AlertKind} : k.recoverable = true ↔ k = .low ∨ k = .empty ∨ k = .forecast := by
  cases k <;> simp [AlertKind.recoverable]

section
variable {b : Bank} {a : Alert} {e : AlertEntry} {s : State}

/-- A merge that withdraws nothing: the contents are replaced by those of a rank that is not lower (Table 8-3). -/
theorem merge_of_keeps (queue : QueueForm s.alerts) (queued : s.entry a.key = some e)
    (keeps : ¬ (a.kind = .recovered ∧ e.alert.kind.recoverable = true)) :
    ∃ q, merge b a e s = s.setAlerts q ∧ q.length = s.alerts.length
      ∧ (∀ k, k ≠ a.key → entryIn k q = s.entry k)
      ∧ entryIn a.key q =
        if e.alert.kind.code ≤ a.kind.code then some ⟨a, e.urgent || a.urgent b⟩ else some e := by
  have left := length_without queue.once queued
  unfold merge
  rw [if_neg keeps]
  split
  · dsimp only
    split
    · exact ⟨_, rfl, List.length_map _, fun k apart => entryIn_replace_ne (e := ⟨a, _⟩) apart.symm _,
        entryIn_replace_self (e := ⟨a, _⟩) rfl queued⟩
    · refine ⟨_, rfl, (length_joinTail _ _).trans left, fun k apart => ?_,
        entryIn_joinTail_self (e := ⟨a, _⟩) rfl (entryIn_without_self _ _)⟩
      exact (entryIn_joinTail_ne (e := ⟨a, _⟩) apart.symm _).trans (entryIn_without_ne apart.symm _)
  · exact ⟨s.alerts, rfl, rfl, fun _ _ => rfl, queued⟩

theorem raiseAlert_of_queued (mask : maskHas s.mgmt.mask a.kind = false) (queued : s.entry a.key = some e) :
    raiseAlert b a s = merge b a e s := by
  unfold raiseAlert
  rw [if_neg (by rw [mask]; decide), queued]

/-- Against a slot that is held back only the held kind changes (R128). -/
theorem raiseAlert_of_held {n : Slot} {h : AlertKind} (key : a.key = .slot n)
    (mask : maskHas s.mgmt.mask a.kind = false) (queued : s.entry a.key = none) (held : (s.slot n).held = some h) :
    raiseAlert b a s = s.modSlot n fun v => { v with held := heldAfter h a.kind } := by
  unfold raiseAlert raiseNew
  rw [if_neg (by rw [mask]; decide), queued, key]
  dsimp only
  rw [held]

/-- With no room a slot is held back, and the overflow counted (R129). -/
theorem raiseAlert_of_full {n : Slot} (key : a.key = .slot n) (mask : maskHas s.mgmt.mask a.kind = false)
    (queued : s.entry a.key = none) (free : (s.slot n).held = none) (full : 64 ≤ s.alerts.length) :
    raiseAlert b a s = (s.modCounters fun c =>
      { c with queueOverflow := satInc Config.counterMax c.queueOverflow }).modSlot n
        fun v => { v with held := some a.kind } := by
  unfold raiseAlert raiseNew place
  rw [if_neg (by rw [mask]; decide), queued, key]
  dsimp only
  rw [free]
  exact if_neg (not_lt.mpr full)

end

/-- Settles O36: the four decisions of section 8.3, by what is queued and held of the alert's key. -/
theorem raisedAlertsMergeQueueOrHoldBack : Obligations.RaisedAlertsMergeQueueOrHoldBack := by
  unfold Obligations.RaisedAlertsMergeQueueOrHoldBack
  refine ⟨fun b a e s ok none mask queued => ?_, fun b n a s key =>
    ⟨fun mask => ?_, fun mask queued => ⟨?_, ?_, ?_⟩⟩⟩
  · have queue := queueOk_iff.mp ok
    dsimp only
    rw [raiseAlert_of_queued mask queued]
    simp only [← recoverable_iff]
    by_cases recovers : a.kind = .recovered ∧ e.alert.kind.recoverable = true
    · have withdrawn : merge b a e s = s.setAlerts (without a.key s.alerts) := by
        unfold merge
        rw [if_pos recovers]
        exact withdraw_of_none_held none queued
      rw [withdrawn]
      exact ⟨rfl, fun k apart => entryIn_without_ne apart.symm s.alerts,
        fun _ _ => ⟨entryIn_without_self _ _, length_without queue.once queued⟩,
        fun keeps => absurd recovers keeps⟩
    · obtain ⟨q, merged, length, others, own⟩ := merge_of_keeps (b := b) queue queued recovers
      rw [merged]
      exact ⟨rfl, others, fun kind under => absurd ⟨kind, under⟩ recovers, fun _ => ⟨length, own⟩⟩
  · unfold raiseAlert
    rw [if_pos mask]
  · intro free room
    rw [raiseAlert_enqueue key mask (key ▸ queued) free room]
    unfold State.enqueue joinTail
    cases a.urgent b <;> rfl
  · intro free full
    exact raiseAlert_of_full key mask queued free full
  · intro h held
    rw [raiseAlert_of_held key mask queued held]
    unfold heldAfter
    simp only [recoverable_iff]
    rfl

/-! ## The re-offer after a withdrawal -/

/-- Settles O37: the withdrawal leaves the held-back flags as they are, and the re-offer is that of the lowest. -/
theorem withdrawalReoffersTheLowestHeldSlot : Obligations.WithdrawalReoffersTheLowestHeldSlot := by
  unfold Obligations.WithdrawalReoffersTheLowestHeldSlot
  intro b k e n h s ok queued held lowest free
  have queue := queueOk_iff.mp ok
  have apart : k ≠ .slot n := by
    rintro rfl
    rw [free] at queued
    cases queued
  have offered : withdraw b k s = reoffered b n h (s.setAlerts (without k s.alerts)) := by
    unfold withdraw
    rw [queued]
    exact reoffer_of_lowest held lowest
  have absent : entryIn (.slot n) (without k s.alerts) = none := (entryIn_without_ne apart s.alerts).trans free
  dsimp only
  rw [offered]
  unfold reoffered
  refine ⟨?_, ?_, ?_, fun m other => State.slot_modSlot_ne _ other _, ?_⟩
  · exact (length_joinTail _ _).trans (length_without queue.once queued)
  · exact (entryIn_joinTail_ne (e := heldEntry b n h s) apart.symm _).trans (entryIn_without_self k s.alerts)
  · rw [State.slot_modSlot_self]
  · exact entryIn_joinTail_self (e := heldEntry b n h s) rfl absent

/-! ## SET_ALERT_MASK -/

theorem maskAfter_getLsbD (mask suppress enable : BitVec 7) {i : Nat} (h : i < 7) :
    (maskAfter mask suppress enable).getLsbD i
      = ((mask.getLsbD i || suppress.getLsbD i) && !enable.getLsbD i) := by
  simp [maskAfter, h]

theorem applyMask_onlyAlerts (suppress enable : BitVec 7) (s : State) :
    OnlyAlerts (s.modMgmt fun m => { m with mask := maskAfter s.mgmt.mask suppress enable })
      (applyMask suppress enable s) := by
  unfold applyMask
  exact (clearHeld_onlyAlerts _ _).trans (withdrawKinds_onlyAlerts _ _ _)

/-- The answer to a SET_ALERT_MASK that is carried out (R172). -/
theorem maskRequest_of_granted {src : Source} {x y : Byte} {s : State} (setOk : x.getLsbD 7 = false)
    (clearOk : y.getLsbD 7 = false) (plan : s.zones.plan src = true) : maskRequest src [x, y] s =
      { status := .ok
        results := [(applyMask (x.setWidth 7) (y.setWidth 7) s).mgmt.mask.setWidth 8]
        state := applyMask (x.setWidth 7) (y.setWidth 7) s } := by
  unfold maskRequest
  rw [show byteAt [x, y] 0 = x from rfl, show byteAt [x, y] 1 = y from rfl, setOk, clearOk, plan]
  rfl

/-- Settles O38: the two refusals, then the mask arithmetic and the removal of what the new mask suppresses. -/
theorem setAlertMaskSetsThenClears : Obligations.SetAlertMaskSetsThenClears := by
  unfold Obligations.SetAlertMaskSetsThenClears
  intro s f src x y h
  refine ⟨fun reserved => ?_, fun setOk clearOk lacks => ?_, fun setOk clearOk plan => ?_⟩
  · have refused : maskRequest src [x, y] s.dropRequest = .plain .badField s.dropRequest := if_pos (by
      rw [Bool.or_eq_true]
      exact reserved)
    exact congrArg Host.Outcome.next (takeRequest_plain h refused)
  · have denied : maskRequest src [x, y] s.dropRequest = .denied src codeSetAlertMask none s.dropRequest := by
      unfold maskRequest
      rw [show byteAt [x, y] 0 = x from rfl, show byteAt [x, y] 1 = y from rfl, setOk, clearOk]
      exact if_pos lacks
    exact congrArg Host.Outcome.next (takeRequest_denied h denied)
  · have request := maskRequest_of_granted (s := s.dropRequest) setOk clearOk plan
    have frame := applyMask_queueOnly (x.setWidth 7) (y.setWidth 7) s.dropRequest
    have mask := applyMask_mask (x.setWidth 7) (y.setWidth 7) s.dropRequest
    have only := applyMask_onlyAlerts (x.setWidth 7) (y.setWidth 7) s.dropRequest
    obtain ⟨held, queued⟩ := applyMask_kinds (x.setWidth 7) (y.setWidth 7) s.dropRequest
    refine ⟨_, congrArg Host.Outcome.next (takeRequest_answer h request), ?_⟩
    generalize applyMask (x.setWidth 7) (y.setWidth 7) s.dropRequest = u at *
    refine ⟨fun i => ?_, ⟨(congrArg (fun v : State => v.mgmt.requests) frame :), rfl⟩, ?_, only.slot,
      fun k new old => ?_⟩
    · show u.mgmt.mask.getLsbD i.val = _
      rw [mask, maskAfter_getLsbD _ _ _ i.isLt]
      simp [i.isLt]
    · unfold QueueOnly at frame
      rw [frame]
      rfl
    · have new : maskHas u.mgmt.mask k = true := new
      rw [mask] at new
      have suppressed : newlySuppressed s.mgmt.mask
          (maskAfter s.mgmt.mask (x.setWidth 7) (y.setWidth 7)) k = true := by
        unfold newlySuppressed
        rw [old]
        exact Bool.and_eq_true_iff.mpr ⟨new, rfl⟩
      refine ⟨fun e mem kind => ?_, fun n kept => ?_⟩
      · exact absurd (kind ▸ suppressed) (Bool.eq_false_iff.mp (queued e mem))
      · exact absurd suppressed (Bool.eq_false_iff.mp (held n k kept))

end Sys2Proof.Machine
end

section
/-!
PROOFS. The departure of an ALERT frame (O14): the bytes of its entries, and the re-offers that follow, one for each
entry that left, the lowest held-back slots first (R131, R134, R191).
-/

namespace Sys2Proof.Machine

/-! ## Numbers in bytes -/

theorem foldl_beBytes (k v acc : Nat) : (beBytes k v).foldl (fun acc b => acc * 256 + b.toNat) acc
    = acc * 256 ^ k + v % 256 ^ k := by
  induction k generalizing acc with
  | zero => simp [beBytes, Nat.mod_one]
  | succ k ih =>
    have top : (BitVec.ofNat 8 (v / 256 ^ k)).toNat = v / 256 ^ k % 256 := BitVec.toNat_ofNat ..
    have split : v % 256 ^ (k + 1) = v % 256 ^ k + 256 ^ k * (v / 256 ^ k % 256) := Nat.mod_pow_succ
    rw [beBytes, List.foldl_cons, ih, top, split]
    generalize v / 256 ^ k % 256 = digit
    ring

/-- Reading a number back from its bytes. -/
theorem beNat_beBytes (k v : Nat) : beNat (beBytes k v) = v % 256 ^ k := by
  unfold beNat
  rw [foldl_beBytes, Nat.zero_mul, Nat.zero_add]

/-- Reading a byte back. -/
theorem beNat_byte (b : Byte) : beNat [b] = b.toNat := Nat.zero_add _

theorem beNat_byte_ofNat {v : Nat} (h : v < 256) : beNat [BitVec.ofNat 8 v] = v := by
  rw [beNat_byte, BitVec.toNat_ofNat, Nat.mod_eq_of_lt h]

/-- An entry is sent as its 16 bytes of Table 12-6. -/
theorem toBytes_fields (e : AlertEntry) (count : ∀ c ∈ e.alert.count, c ≤ 65535)
    (projection : ∀ x ∈ e.alert.projection, x ≤ 65535) :
    fieldAt e.toBytes 0 1 = e.alert.kind.code
    ∧ fieldAt e.toBytes 1 1 = (match e.alert.key with
      | .slot n => n.val
      | .session id => id.val)
    ∧ fieldAt e.toBytes 2 1 = (if e.urgent = true then 128 else 0) + (if e.alert.article.isSome = true then 4 else 0)
      + (if e.alert.projection.isSome = true then 2 else 0) + (if e.alert.count.isSome = true then 1 else 0)
    ∧ fieldAt e.toBytes 3 1 = e.alert.reason.code
    ∧ fieldAt e.toBytes 4 2 = e.alert.count.getD 0 ∧ fieldAt e.toBytes 6 2 = e.alert.projection.getD 0
    ∧ fieldAt e.toBytes 8 4 = ((if e.alert.kind = .lapsed then e.alert.added else e.alert.article).getD 0).toNat
    ∧ fieldAt e.toBytes 12 4 = e.alert.time.toNat := by
  have flag : ∀ (x : Bool) (k : Nat), k * x.toNat = if x = true then k else 0 := fun x k => by cases x <;> simp
  have short : ∀ x : Option Nat, (∀ v ∈ x, v ≤ 65535) → x.getD 0 % 256 ^ 2 = x.getD 0 := fun x small =>
    Nat.mod_eq_of_lt (by cases x with
      | none => decide
      | some v => exact Nat.lt_succ_of_le (small v rfl))
  have word : ∀ w : Word, w.toNat % 256 ^ 4 = w.toNat := fun w => Nat.mod_eq_of_lt w.isLt
  refine ⟨?_, ?_, ?_, ?_, (beNat_beBytes 2 _).trans (short _ count), (beNat_beBytes 2 _).trans (short _ projection),
    (beNat_beBytes 4 _).trans (word _), (beNat_beBytes 4 _).trans (word _)⟩
  · exact beNat_byte_ofNat (by cases e.alert.kind <;> decide)
  · show beNat [_] = _
    cases e.alert.key with
    | slot n => exact beNat_byte_ofNat n.isLt
    | session id => exact beNat_byte_ofNat (id.isLt.trans (by decide))
  · have flags := beNat_byte_ofNat (v := 128 * e.urgent.toNat + e.alert.count.isSome.toNat
      + 2 * e.alert.projection.isSome.toNat + 4 * e.alert.article.isSome.toNat) (by
        have := e.urgent.toNat_le
        have := e.alert.count.isSome.toNat_le
        have := e.alert.projection.isSome.toNat_le
        have := e.alert.article.isSome.toNat_le
        omega)
    refine flags.trans ?_
    rw [← flag, ← flag, ← flag, ← flag]
    omega
  · exact beNat_byte_ofNat (by cases e.alert.reason <;> decide)

/-! ## The re-offers -/

/-- The held-back slots, in ascending order. -/
def heldSlots (s : State) : List Slot := allSlots.filter fun n => (s.slot n).held.isSome

theorem mem_heldSlots {s : State} {n : Slot} : n ∈ heldSlots s ↔ (s.slot n).held.isSome = true := by
  simp [heldSlots, mem_allSlots]

/-- The entries that slots join the queue as when they are offered again. -/
def heldEntries (b : Bank) (s : State) (ns : List Slot) : List AlertEntry :=
  ns.filterMap fun n => (s.slot n).held.map fun h => heldEntry b n h s

theorem heldEntry_congr {b : Bank} {n : Slot} {h : AlertKind} {s t : State} (slot : t.slot n = s.slot n)
    (now : t.now = s.now) : heldEntry b n h t = heldEntry b n h s := by
  unfold heldEntry
  rw [slot, now]

theorem heldEntries_congr {b : Bank} {s t : State} {ns : List Slot} (slot : ∀ n ∈ ns, t.slot n = s.slot n)
    (now : t.now = s.now) : heldEntries b t ns = heldEntries b s ns := by
  refine List.filterMap_congr fun n mem => ?_
  rw [slot n mem]
  cases (s.slot n).held with
  | none => rfl
  | some h => exact congrArg some (heldEntry_congr (slot n mem) now)

/-- What re-offers the slots `ns` makes of a state: they join the tails of their tiers, and are held back no more. -/
structure Offered (b : Bank) (ns : List Slot) (s t : State) : Prop where
  only : QueueOnly s t
  alerts : t.alerts = tailed s.alerts (heldEntries b s ns)
  slot : ∀ n, t.slot n = if n ∈ ns then { s.slot n with held := none } else s.slot n

theorem reoffered_slot_ne {b : Bank} {n m : Slot} {h : AlertKind} {s : State} (apart : m ≠ n) :
    (reoffered b n h s).slot m = s.slot m := State.slot_modSlot_ne _ apart _

theorem reoffered_slot_self {b : Bank} {n : Slot} {h : AlertKind} {s : State} :
    (reoffered b n h s).slot n = { s.slot n with held := none } := State.slot_modSlot_self _ n _

/-- The lowest held-back slot heads the held-back slots, and its re-offer leaves the others. -/
theorem heldSlots_reoffered {b : Bank} {n : Slot} {h : AlertKind} {s : State} (held : (s.slot n).held = some h)
    (lowest : ∀ m, m < n → (s.slot m).held = none) : heldSlots s = n :: heldSlots (reoffered b n h s) := by
  have found := lowestHeld_eq_some_iff.mpr ⟨by rw [held]; rfl, lowest⟩
  obtain ⟨isSome, before, after, split, free⟩ := List.find?_eq_some_iff_append.mp found
  have once : (before ++ n :: after).Nodup := split ▸ allSlots_nodup
  have apart := List.nodup_middle.mp once
  have other : ∀ m ∈ before ++ after, (reoffered b n h s).slot m = s.slot m := fun m mem =>
    reoffered_slot_ne fun e => (List.nodup_cons.mp apart).1 (e ▸ mem)
  have clear : before.filter (fun m => (s.slot m).held.isSome) = [] :=
    List.filter_eq_nil_iff.mpr fun m mem => by simpa using free m mem
  have clear' : before.filter (fun m => ((reoffered b n h s).slot m).held.isSome) = [] := by
    rw [← clear]
    exact List.filter_congr fun m mem => by rw [other m (List.mem_append_left _ mem)]
  have rest : after.filter (fun m => ((reoffered b n h s).slot m).held.isSome)
      = after.filter (fun m => (s.slot m).held.isSome) :=
    List.filter_congr fun m mem => by rw [other m (List.mem_append_right _ mem)]
  have freed : ¬ ((reoffered b n h s).slot n).held.isSome = true := by
    rw [reoffered_slot_self]
    exact Bool.false_ne_true
  unfold heldSlots
  rw [split, List.filter_append, List.filter_append, clear, clear',
    List.filter_cons_of_pos (p := fun m => (s.slot m).held.isSome) isSome,
    List.filter_cons_of_neg (p := fun m => ((reoffered b n h s).slot m).held.isSome) freed, rest]
  rfl

/-- `k` re-offers take the `k` lowest held-back slots (R131, R134). -/
theorem reoffers_offered (b : Bank) (k : Nat) {s : State} (tiers : Tiered s.alerts) :
    Offered b ((heldSlots s).take k) s (reoffers b k s) := by
  induction k generalizing s with
  | zero => exact ⟨.refl s, tiers.tailed_nil.symm, fun n => rfl⟩
  | succ k ih =>
    obtain ⟨none, same⟩ | ⟨n, h, held, lowest, offered⟩ := reoffer_cases b s
    · have empty : heldSlots s = [] := List.filter_eq_nil_iff.mpr fun n _ => by simp [none n]
      have rest := ih tiers
      rw [empty, List.take_nil] at rest ⊢
      rw [reoffers, same]
      exact rest
    · have list := heldSlots_reoffered (b := b) held lowest
      have joined : (reoffered b n h s).alerts = tailed s.alerts [heldEntry b n h s] := tiers.joinTail_eq _
      have rest := ih (s := reoffered b n h s) (joined ▸ tailed_tiered _ _)
      have gone : n ∉ (heldSlots (reoffered b n h s)).take k := fun mem => by
        have kept := mem_heldSlots.mp (List.mem_of_mem_take mem)
        rw [reoffered_slot_self] at kept
        cases kept
      have apart : ∀ m ∈ (heldSlots (reoffered b n h s)).take k, m ≠ n := fun m mem e => gone (e ▸ mem)
      have only : QueueOnly s (reoffered b n h s) := rfl
      rw [reoffers, offered, list, List.take_succ_cons]
      refine ⟨only.trans rest.only, ?_, fun m => ?_⟩
      · have later := heldEntries_congr (b := b) (t := reoffered b n h s) (s := s)
          (fun m mem => reoffered_slot_ne (apart m mem)) rfl
        have first : heldEntries b s (n :: (heldSlots (reoffered b n h s)).take k)
            = heldEntry b n h s :: heldEntries b s ((heldSlots (reoffered b n h s)).take k) := by
          unfold heldEntries
          exact List.filterMap_cons_some (by rw [held]; rfl)
        rw [rest.alerts, later, joined, tailed_tailed, first]
        rfl
      · rw [rest.slot m]
        by_cases here : m = n
        · subst here
          rw [if_neg gone, if_pos List.mem_cons_self, reoffered_slot_self]
        · simp only [List.mem_cons, here, false_or]
          rw [reoffered_slot_ne here]

theorem reoffers_of_none_held (b : Bank) (k : Nat) {s : State} (none : ∀ n, (s.slot n).held = none) :
    reoffers b k s = s := by
  induction k with
  | zero => rfl
  | succ k ih => rw [reoffers, reoffer_of_none_held none, ih]

/-! ## The grant -/

/-- The ALERT frame that a grant sends (R134, R165). -/
def alertFrame (s : State) : Frame := ownFrame s s.link.alertSeq kindAlert (alertPayload (s.alerts.take alertFrameMax))

/-- The state in which the re-offers after a grant are made: the frame has been formed, its entries have left. -/
def alertsSent (s : State) : State := { s with
  alerts := s.alerts.drop 4
  link := { s.link with uplink := some ⟨alertFrame s, false⟩, alertSeq := s.link.alertSeq + 1 } }

theorem sendAlerts_eq (s : State) : sendAlerts s = reoffers s.acting (min 4 s.alerts.length) (alertsSent s) := by
  unfold sendAlerts
  rw [← List.length_take]
  rfl

theorem alertGrant_eq {s : State} (idle : s.link.uplink = none) (answered : s.mgmt.response = none)
    (returned : s.link.returns = []) (queued : s.alerts ≠ []) : exec .alertGrant s = .next (sendAlerts s) := by
  have granted : s.granted = some .alerts := by
    unfold State.granted
    simp [idle, answered, returned, queued]
  exact congrArg Host.Outcome.next (if_pos granted)

theorem alertPayload_length (es : List AlertEntry) : (alertPayload es).length = 1 + 16 * es.length := by
  simp [alertPayload, List.length_flatMap]
  omega

/-- Settles O14: the frame with its bytes, then the re-offers behind it. -/
theorem alertGrantSendsTheFirstFour : Obligations.AlertGrantSendsTheFirstFour := by
  unfold Obligations.AlertGrantSendsTheFirstFour
  refine ⟨fun s idle answered returned queued => ?_, fun e count projection => ?_⟩
  · have count : (s.alerts.take alertFrameMax).length = min 4 s.alerts.length := List.length_take
    rw [alertGrant_eq idle answered returned queued, sendAlerts_eq]
    refine ⟨alertFrame s, rfl, rfl, ?_, ?_, formFrame_crcOk _ _ _, fun none => ?_, fun ok => ?_⟩
    · rw [← count]
      rfl
    · rw [← count]
      exact alertPayload_length _
    · exact congrArg Host.Outcome.next (reoffers_of_none_held s.acting _ (s := alertsSent s) none)
    · have tiers : Tiered (alertsSent s).alerts := (queueOk_iff.mp ok).tiers.sublist (List.drop_sublist 4 s.alerts)
      have offered := reoffers_offered s.acting (min 4 s.alerts.length) tiers
      refine ⟨_, rfl, ?_, offered.slot⟩
      have only := offered.only
      unfold QueueOnly at only
      rw [offered.alerts] at only
      exact only
  · obtain ⟨kind, key, flags, reason, rest⟩ := toBytes_fields e count projection
    refine ⟨AlertEntry.toBytes_length e, kind.trans ?_, key, flags, reason.trans ?_, rest⟩
    · cases e.alert.kind <;> rfl
    · cases e.alert.reason <;> rfl

end Sys2Proof.Machine
end

section
/-!
PROOFS. A frame on either line (O9): from HUNT, with any preamble count, the bytes of a frame as Table 12-1 lays it out
are assembled into that frame (R142, R158, R159).
-/

namespace Sys2Proof.Machine

/-! ## From HUNT to the frame -/

/-- The bytes of the frame as it is sent are taken without an event up to the last, which completes the frame. -/
def Assembler.Assembles (a : Assembler) (f : Frame) : Prop :=
  ∃ bs b a', rxBytes f.wire = bs ++ [b] ∧ a.Absorbs bs a' ∧ a'.receive b = (Assembler.reset, .frame f)

theorem receive_hunting {a : Assembler} (hunting : a.state = .hunt) (d : Byte) :
    a.receive ⟨d, true⟩ = (a.hunt d, .nothing) := by
  unfold Assembler.receive
  rw [hunting]
  rfl

/-- A preamble byte in HUNT is counted up to 4 (R158). -/
theorem receive_preamble {a : Assembler} (hunting : a.state = .hunt) :
    a.receive ⟨0xD5, true⟩ = ({ a with preamble := min 4 (a.preamble + 1) }, .nothing) :=
  receive_hunting hunting 0xD5

/-- After four preamble bytes another byte is the address byte, whatever the assembler held in HUNT (R158). -/
theorem receive_address {a : Assembler} {addr : Byte} (hunting : a.state = .hunt) (counted : a.preamble = 4)
    (plain : addr ≠ 0xD5) :
    a.receive ⟨addr, true⟩ = ({ Assembler.reset with state := .header, addr := addr }, .nothing) := by
  rw [receive_hunting hunting]
  unfold Assembler.hunt
  rw [if_neg plain, if_pos counted]

/-- Four preamble bytes bring the count to 4, whatever it was (R158). -/
theorem absorbs_preamble {a : Assembler} (hunting : a.state = .hunt) :
    a.Absorbs (rxBytes [0xD5, 0xD5, 0xD5, 0xD5]) { a with preamble := 4 } := by
  have four : min 4 (min 4 (min 4 (min 4 (a.preamble + 1) + 1) + 1) + 1) = 4 := by omega
  simp only [rxBytes, List.map_cons, List.map_nil, Assembler.Absorbs, receive_preamble, hunting, four, and_self]

/-- What the assembler takes from its reset values it takes from any state in HUNT, once an address byte has come. -/
theorem Assembler.Absorbs.of_hunting {a a' : Assembler} {addr : Byte} {bs : List RxByte} (hunting : a.state = .hunt)
    (plain : addr ≠ 0xD5)
    (h : Assembler.reset.Absorbs (rxBytes [0xD5, 0xD5, 0xD5, 0xD5] ++ (⟨addr, true⟩ :: bs)) a') :
    a.Absorbs (rxBytes [0xD5, 0xD5, 0xD5, 0xD5] ++ (⟨addr, true⟩ :: bs)) a' := by
  obtain ⟨-, -, -, -, -, rest⟩ := h
  have fromReset := receive_address (a := { Assembler.reset with preamble := 4 }) rfl rfl plain
  have fromHere := receive_address (a := { a with preamble := 4 }) hunting rfl plain
  refine (absorbs_preamble hunting).append ⟨?_, ?_⟩
  · rw [fromHere]
  · rw [fromHere, ← fromReset]
    exact rest

theorem assembles_of_hunting {a : Assembler} {f : Frame} (hunting : a.state = .hunt) (plain : f.addr ≠ 0xD5)
    (length : f.payload.length ≤ 240) : a.Assembles f := by
  refine ⟨_, ⟨BitVec.ofNat 8 f.crc.toNat, true⟩, _, ?_, .of_hunting hunting plain (absorbs_frame plain length), ?_⟩
  · unfold rxBytes Frame.wire crcCovered
    simp [beBytes]
  · unfold Assembler.receive Assembler.check
    dsimp only
    rw [if_pos rfl, Option.getD_some, beNat_beBytes_two]

/-! ## The two lines -/

theorem foldl_trunkByte_assembles {f : Frame} {s : State} (h : s.trunk.rx.Assembles f) :
    (rxBytes f.wire).foldl trunkByte s = trunkFrame f (s.modTrunk fun t => { t with rx := Assembler.reset }) := by
  obtain ⟨bs, b, a', bytes, taken, completes⟩ := h
  rw [bytes, List.foldl_append, foldl_trunkByte_of_absorbs taken, List.foldl_cons, List.foldl_nil]
  unfold trunkByte
  rw [State.modTrunk_trunk, completes]
  rfl

theorem linkByte_of_nothing {s : State} {b : RxByte} (h : (s.link.rx.receive b).2 = .nothing) :
    linkByte s b = s.modLink fun l => { l with rx := (s.link.rx.receive b).1 } := by
  unfold linkByte
  dsimp only
  rw [h]
  rfl

theorem foldl_linkByte_of_absorbs {a' : Assembler} {bs : List RxByte} {s : State} (h : s.link.rx.Absorbs bs a') :
    bs.foldl linkByte s = s.modLink fun l => { l with rx := a' } := by
  induction bs generalizing s with
  | nil =>
    obtain rfl : s.link.rx = a' := h
    rfl
  | cons b bs ih =>
    obtain ⟨quiet, rest⟩ := h
    rw [List.foldl_cons, linkByte_of_nothing quiet, ih rest]
    rfl

/-- A frame that the aisle link completes has its own event, whether its CRC is right or wrong (R159). -/
theorem foldl_linkByte_assembles {f : Frame} {s : State} (h : s.link.rx.Assembles f) :
    (rxBytes f.wire).foldl linkByte s = linkEvent (.frame f) (s.modLink fun l => { l with rx := Assembler.reset }) := by
  obtain ⟨bs, b, a', bytes, taken, completes⟩ := h
  rw [bytes, List.foldl_append, foldl_linkByte_of_absorbs taken, List.foldl_cons, List.foldl_nil]
  unfold linkByte
  rw [State.modLink_link, completes]
  rfl

/-- Settles O9. -/
theorem wireFramesAreAssembledOnBothLines : Obligations.WireFramesAreAssembledOnBothLines := by
  unfold Obligations.WireFramesAreAssembledOnBothLines
  refine fun f s length plain => ⟨fun crc hunting => ?_, fun hunting => ?_⟩
  · have taken := foldl_linkByte_assembles (assembles_of_hunting hunting plain length)
    exact congrArg Host.Outcome.next (taken.trans (if_pos crc))
  · exact congrArg Host.Outcome.next (foldl_trunkByte_assembles (assembles_of_hunting hunting plain length))

end Sys2Proof.Machine
end

section
/-!
PROOFS. The arbiter (O20, O21): which branch of its decision is taken, the poll that starts, and the bound on its
decisions: a decision is made afresh only after a switch has completed or the roster has been found empty, and each of
these happens once at most (R146 to R148).
-/

namespace Sys2Proof.Machine

/-! ## Polls that are due and available (R146) -/

theorem motionDue_iff {s : State} : motionDue s = true ↔ s.acting.header.interleave ≠ 0 ∧ s.trunk.motionList ≠ []
    ∧ s.acting.header.interleave.toNat ≤ s.trunk.interleave := by
  have zero : s.acting.header.interleave.toNat ≠ 0 ↔ s.acting.header.interleave ≠ 0 :=
    not_congr (BitVec.toNat_inj (y := 0))
  unfold motionDue
  simp only [Bool.and_eq_true, decide_eq_true_eq, Bool.not_eq_true', List.isEmpty_eq_false_iff, zero, and_assoc]

theorem pollAvailable_of_due {s : State} (serves : s.store.serving.isSome = true) (due : motionDue s = true) :
    pollAvailable s = true := by
  unfold pollAvailable
  rw [serves, due]
  rfl

theorem pollAvailable_of_roster {s : State} (serves : s.store.serving.isSome = true) (roster : 0 < s.acting.length)
    (filled : s.trunk.rosterEmpty = false) : pollAvailable s = true := by
  unfold pollAvailable
  rw [serves, filled, decide_eq_true roster, Bool.not_false, Bool.and_self, Bool.or_true, Bool.and_self]

theorem pollAvailable_of_marked {s : State} (still : motionDue s = false) (marked : s.trunk.rosterEmpty = true) :
    pollAvailable s = false := by
  unfold pollAvailable
  rw [still, marked, Bool.not_true, Bool.and_false, Bool.or_self, Bool.and_false]

theorem pollAvailable_of_idle {s : State} (idle : s.store.serving = none) : pollAvailable s = false := by
  unfold pollAvailable
  rw [idle]
  rfl

theorem motionDue_of_empty {s : State} (empty : s.trunk.motionList = []) : motionDue s = false :=
  Bool.eq_false_iff.mpr fun due => (motionDue_iff.mp due).2.1 empty

/-! ## One decision (R146, R147) -/

section
variable {s : State} (idle : s.trunk.txn = none) (heard : s.trunk.listening = none)
include idle heard

/-- A decision on an idle trunk, by its branches. -/
theorem arbiter_succ (k : Nat) : arbiter (k + 1) s =
    if s.trunk.lastKind = .forward && pollAvailable s then
      match makePoll s with
      | (t, true) => arbiter k t
      | (t, false) => t
    else match s.trunk.forwards with
      | f :: rest => startForward f rest s
      | [] => if pollAvailable s then
          match makePoll s with
          | (t, true) => arbiter k t
          | (t, false) => t
        else s := by
  rw [arbiter, idle, heard]
  rfl

/-- After a poll a waiting frame is forwarded. -/
theorem arbitrate_forwards {f : Frame} {rest : List Frame} (waiting : s.trunk.forwards = f :: rest)
    (turn : s.trunk.lastKind = .poll) : arbitrate s = startForward f rest s := by
  unfold arbitrate
  rw [arbiter_succ idle heard, turn, waiting]
  rfl

/-- An available poll starts after a forward, and where no frame waits. -/
theorem arbitrate_polls {t : State} (available : pollAvailable s = true)
    (turn : s.trunk.lastKind = .forward ∨ s.trunk.forwards = []) (poll : makePoll s = (t, false)) :
    arbitrate s = t := by
  unfold arbitrate
  rw [arbiter_succ idle heard, available, poll]
  obtain last | empty := turn
  · rw [last]
    rfl
  · rw [empty]
    exact ite_self _

end

/-- With nothing to forward and nothing to poll a decision changes nothing. -/
theorem arbitrate_of_no_work {s : State} (empty : s.trunk.forwards = []) (none : pollAvailable s = false) :
    arbitrate s = s := by
  show arbiter (3 + 1) s = s
  rw [arbiter, empty, none, Bool.and_false]
  exact ite_self _

/-! ## The poll that starts (R141, R147, R150) -/

/-- The state in which a poll to a node is in flight. -/
def polling (node : Node) (motion : Bool) (s : State) : State := { s with
  trunk := { s.trunk with
    txn := some ⟨.poll node s.trunk.pollTag motion,
      ⟨addrByte (node.val + 1) false, kindByte s.trunk.pollTag 1, [],
        crc16 (crcCovered (addrByte (node.val + 1) false) (kindByte s.trunk.pollTag 1) [])⟩,
      true, s.acting.header.timeout.toNat⟩
    pollTag := s.trunk.pollTag + 1
    lastKind := .poll
    interleave := if motion then 0 else s.trunk.interleave
    motionPtr := if motion then
      (if s.trunk.motionPtr + 1 < s.trunk.motionList.length then s.trunk.motionPtr + 1 else 0)
      else s.trunk.motionPtr
    nodes := s.trunk.nodes.set node { s.trunk.nodes[node] with polls := s.trunk.nodes[node].polls + 1 } } }

theorem startPoll_eq (node : Node) (motion : Bool) (s : State) : startPoll node motion s = polling node motion s := rfl

/-- A node entry at the roster pointer is polled, however many advances a SKIP pass may make (R147). -/
theorem skipPass_of_entry {s : State} {node : Node} (entry : s.acting.entry s.trunk.rosterPtr = some node) (k : Nat) :
    skipPass k s = (polling node false s, false) := by
  cases k <;> rw [skipPass, entry, ← startPoll_eq]

theorem makePoll_of_due {s : State} {node : Node} (due : motionDue s = true)
    (here : s.trunk.motionList[s.trunk.motionPtr]? = some node) : makePoll s = (polling node true s, false) := by
  unfold makePoll Trunk.motionNode
  rw [if_pos due, here, ← startPoll_eq]

theorem makePoll_of_entry {s : State} {node : Node} (still : motionDue s = false)
    (entry : s.acting.entry s.trunk.rosterPtr = some node) : makePoll s = (polling node false s, false) := by
  unfold makePoll
  rw [if_neg (Bool.eq_false_iff.mp still), skipPass_of_entry entry]

/-- The state in which the listening period is over. -/
def State.heard (s : State) : State := { s with trunk := { s.trunk with listening := none } }

/-- Settles O20: the first decision polls the node at the roster pointer. -/
theorem listenPeriodEndStartsTheFirstPoll : Obligations.ListenPeriodEndStartsTheFirstPoll := by
  unfold Obligations.ListenPeriodEndStartsTheFirstPoll
  intro s k node listens idle empty still filled serves roster entry
  have first : exec .listenPeriodEnd s = .next (arbitrate s.heard) := by
    show execListenPeriodEnd s = _
    unfold execListenPeriodEnd
    rw [listens]
    rfl
  have available : pollAvailable s.heard = true := pollAvailable_of_roster serves roster filled
  have poll : makePoll s.heard = (polling node false s.heard, false) :=
    makePoll_of_entry (motionDue_of_empty still) entry
  exact first.trans (congrArg Host.Outcome.next (arbitrate_polls (s := s.heard) idle rfl available (.inr empty) poll))

/-! ## The bound on decisions (R146 to R148) -/

/-- A roster advance that completes a switch leaves none pending (R12). -/
theorem advanceRoster_completed {s t : State} (h : advanceRoster s = (t, true)) :
    s.store.requested.isSome = true ∧ t.store.requested = none := by
  by_cases inside : s.trunk.rosterPtr + 1 < s.acting.length
  · rw [advanceRoster_step inside] at h
    cases h
  · cases pending : s.store.requested with
    | none =>
      rw [advanceRoster_turn inside pending] at h
      cases h
    | some target =>
      rw [advanceRoster_completes inside pending, completeSwitch_eq] at h
      cases h
      exact ⟨rfl, rfl⟩

/-- A roster advance that completes no switch leaves the table store, and a motion poll as due as it was. -/
theorem advanceRoster_moved {s t : State} (h : advanceRoster s = (t, false)) :
    t.store = s.store ∧ motionDue t = motionDue s := by
  by_cases inside : s.trunk.rosterPtr + 1 < s.acting.length
  · rw [advanceRoster_step inside] at h
    cases h
    exact ⟨rfl, rfl⟩
  · cases pending : s.store.requested with
    | none =>
      rw [advanceRoster_turn inside pending] at h
      cases h
      exact ⟨rfl, rfl⟩
    | some target =>
      rw [advanceRoster_completes inside pending] at h
      cases h

/-- How many more decisions there can be: one for a poll that may be tried, one more for a switch that may complete. -/
def decisionsLeft (s : State) : Nat :=
  if pollAvailable s then (if s.store.requested.isSome then 2 else 1) else 0

/-- A SKIP pass that ends without a transaction has completed the pending switch, or has marked the roster empty. -/
theorem skipPass_again {k : Nat} {s t : State} (still : motionDue s = false) (h : skipPass k s = (t, true)) :
    (s.store.requested.isSome = true ∧ t.store.requested = none) ∨ pollAvailable t = false := by
  induction k generalizing s with
  | zero =>
    unfold skipPass at h
    split at h
    · cases h
    · cases h
      exact .inr (pollAvailable_of_marked still rfl)
  | succ k ih =>
    unfold skipPass at h
    split at h
    · cases h
    · split at h
      · next completed =>
        cases h
        exact .inl (advanceRoster_completed completed)
      · next moved =>
        obtain ⟨store, due⟩ := advanceRoster_moved moved
        have rest := ih (due.trans still) h
        rw [store] at rest
        exact rest

theorem decisionsLeft_of_none {s : State} (none : pollAvailable s = false) : decisionsLeft s = 0 := by
  unfold decisionsLeft
  rw [none]
  rfl

theorem decisionsLeft_of_available {s : State} (available : pollAvailable s = true) :
    decisionsLeft s = if s.store.requested.isSome then 2 else 1 := if_pos available

theorem decisionsLeft_le_one {s : State} (idle : s.store.requested = none) : decisionsLeft s ≤ 1 := by
  unfold decisionsLeft
  rw [idle]
  split <;> decide

/-- A poll that ends without a transaction leaves fewer decisions to be made. -/
theorem makePoll_again {s t : State} (available : pollAvailable s = true) (h : makePoll s = (t, true)) :
    decisionsLeft t < decisionsLeft s := by
  rw [decisionsLeft_of_available available]
  unfold makePoll at h
  split at h
  · split at h <;> cases h
  · next still =>
    obtain ⟨pending, idle⟩ | none := skipPass_again (Bool.eq_false_iff.mpr still) h
    · rw [pending]
      exact Nat.lt_succ_of_le (decisionsLeft_le_one idle)
    · rw [decisionsLeft_of_none none]
      split <;> decide

/-! ## What a decision keeps -/

theorem motionListOk_polling (node : Node) {motion : Bool} {s : State} (ok : MotionListOk s.trunk) :
    MotionListOk (polling node motion s).trunk := by
  obtain ⟨room, once, ptr⟩ := ok
  refine ⟨room, once, ?_⟩
  show (if motion then (if s.trunk.motionPtr + 1 < s.trunk.motionList.length then s.trunk.motionPtr + 1 else 0)
      else s.trunk.motionPtr) < s.trunk.motionList.length ∨ s.trunk.motionList = []
        ∧ (if motion then (if s.trunk.motionPtr + 1 < s.trunk.motionList.length then s.trunk.motionPtr + 1 else 0)
          else s.trunk.motionPtr) = 0
  rw [← List.length_eq_zero_iff] at *
  split
  · split <;> omega
  · exact ptr

theorem motionListOk_decides : Decides fun s t => MotionListOk s.trunk → MotionListOk t.trunk where
  refl _ := id
  trans h k := k ∘ h
  poll node motion s := motionListOk_polling node
  forward f rest s _ ok := by
    rw [startForward_eq, snooped_eq]
    exact ok
  advance s ok := by
    unfold advanceRoster
    split
    · exact ok
    · dsimp only
      split
      · rw [completeSwitch_trunk]
        exact motionListOk_nil rfl rfl
      · exact ok
  mark _ := id

theorem heard_decides : Decides fun s t => s.trunk.listening = none → t.trunk.listening = none where
  refl _ := id
  trans h k := k ∘ h
  poll _ _ _ := id
  forward f rest s _ heard := by
    rw [startForward_eq, snooped_eq]
    exact heard
  advance s := (advanceRoster_quiet s).2.trans
  mark _ := id

/-! ## No work is left (R146) -/

/-- A transaction is in flight, or no frame waits to be forwarded and no poll is available. -/
def NoWorkLeft (t : State) : Prop := t.trunk.txn.isSome = true ∨ (t.trunk.forwards = [] ∧ pollAvailable t = false)

theorem skipPass_starts {k : Nat} {s t : State} (h : skipPass k s = (t, false)) : t.trunk.txn.isSome = true := by
  induction k generalizing s with
  | zero =>
    unfold skipPass at h
    split at h
    · cases h
      rfl
    · cases h
  | succ k ih =>
    unfold skipPass at h
    split at h
    · cases h
      rfl
    · split at h
      · cases h
      · exact ih h

/-- A motion poll that is due finds a node at the motion list pointer (R150). -/
theorem motionNode_of_due {s : State} (ok : MotionListOk s.trunk) (due : motionDue s = true) :
    ∃ node, s.trunk.motionNode = some node := by
  obtain ⟨-, -, inside | ⟨empty, -⟩⟩ := ok
  · exact ⟨_, List.getElem?_eq_getElem inside⟩
  · exact absurd empty (motionDue_iff.mp due).2.1

theorem makePoll_starts {s t : State} (ok : MotionListOk s.trunk) (h : makePoll s = (t, false)) :
    t.trunk.txn.isSome = true := by
  by_cases due : motionDue s = true
  · obtain ⟨node, here⟩ := motionNode_of_due ok due
    rw [makePoll_of_due due here] at h
    cases h
    rfl
  · unfold makePoll at h
    rw [if_neg due] at h
    exact skipPass_starts h

theorem arbiter_noWorkLeft {k : Nat} {s : State} (heard : s.trunk.listening = none) (ok : MotionListOk s.trunk)
    (bound : decisionsLeft s < k) : NoWorkLeft (arbiter k s) := by
  induction k generalizing s with
  | zero => exact absurd bound (Nat.not_lt_zero _)
  | succ k ih =>
    cases busy : s.trunk.txn with
    | some x =>
      have kept : arbiter (k + 1) s = s := by
        rw [arbiter, busy]
        rfl
      rw [kept]
      exact .inl (by rw [busy]; rfl)
    | none =>
      have poll : pollAvailable s = true → NoWorkLeft (match makePoll s with
          | (t, true) => arbiter k t
          | (t, false) => t) := by
        intro available
        have listens := heard_decides.makePoll s heard
        have list := motionListOk_decides.makePoll s ok
        split
        · next again =>
          rw [again] at listens list
          have fewer := makePoll_again available again
          exact ih listens list (by omega)
        · next starts => exact .inl (makePoll_starts ok starts)
      rw [arbiter_succ busy heard]
      split
      · next turn => exact poll (Bool.and_eq_true_iff.mp turn).2
      · split
        · exact .inl rfl
        · next empty =>
          split
          · next available => exact poll available
          · next none => exact .inr ⟨empty, Bool.eq_false_iff.mpr none⟩

theorem arbitrate_noWorkLeft {s : State} (heard : s.trunk.listening = none) (ok : MotionListOk s.trunk) :
    NoWorkLeft (arbitrate s) := by
  refine arbiter_noWorkLeft heard ok ?_
  unfold decisionsLeft
  split
  · split <;> decide
  · decide

/-- Settles O21: the bound covers the decisions that can be needed, and the last transaction kind says whose turn it
is. -/
theorem arbiterLeavesNoWorkAndAlternates : Obligations.ArbiterLeavesNoWorkAndAlternates := by
  unfold Obligations.ArbiterLeavesNoWorkAndAlternates
  refine ⟨fun s _ heard ok => arbitrate_noWorkLeft heard ok,
    fun s f rest idle heard waiting serves => ⟨fun last => ?_, fun node last due here => ?_,
      fun node last still roster filled entry => ?_⟩⟩
  · rw [arbitrate_forwards idle heard waiting last]
    exact ⟨_, rfl, rfl, rfl, rfl⟩
  · have due := motionDue_iff.mpr due
    exact arbitrate_polls idle heard (pollAvailable_of_due serves due) (.inl last) (makePoll_of_due due here)
  · have still : motionDue s = false := Bool.eq_false_iff.mpr fun due => still (motionDue_iff.mp due)
    exact arbitrate_polls idle heard (pollAvailable_of_roster serves roster filled) (.inl last)
      (makePoll_of_entry still entry)

end Sys2Proof.Machine
end

section
/-!
PROOFS. The reply window (O15, O16, O19): the last byte of a frame opens it, stale and foreign frames and abandoned ones
leave a forward's window open, and a forward ends with its reply or with FWD_FAIL (R142 to R145, R156).
-/

namespace Sys2Proof.Machine

/-! ## The window opens (R142, R144) -/

theorem exec_sent_opens {s : State} {k : TxnKind} {f : Frame} {timeout : Nat}
    (sending : s.trunk.txn = some ⟨k, f, true, timeout⟩) (addressed : ∀ z, k ≠ .forward none z) :
    exec .trunkFrameSent s
      = .next { s with trunk := { s.trunk with txn := some ⟨k, f, false, timeout⟩ } } := by
  show execTrunkFrameSent s = _
  unfold execTrunkFrameSent
  rw [sending]
  obtain ⟨node, tag, motion⟩ | ⟨_ | node, z⟩ := k
  · rfl
  · exact absurd rfl (addressed z)
  · rfl

/-- A broadcast is over with its last byte, and the arbiter decides (R144). -/
theorem exec_sent_broadcast {s : State} {z : Option RezeroSet} {f : Frame} {timeout : Nat}
    (sending : s.trunk.txn = some ⟨.forward none z, f, true, timeout⟩) :
    exec .trunkFrameSent s = .next (arbitrate s.endTxn) := by
  show execTrunkFrameSent s = _
  unfold execTrunkFrameSent
  rw [sending]

/-- Settles O15. -/
theorem trunkFrameSentOpensTheWindow : Obligations.TrunkFrameSentOpensTheWindow := by
  unfold Obligations.TrunkFrameSentOpensTheWindow
  refine fun s k f timeout sending => ⟨exec_sent_opens sending, fun z broadcast empty _ idle => ?_⟩
  subst broadcast
  rw [exec_sent_broadcast sending]
  exact congrArg Host.Outcome.next (arbitrate_of_no_work (s := s.endTxn) empty (pollAvailable_of_idle idle))

/-! ## Frames that end no window (R142 to R144, R156) -/

/-- No poll's reply window is open: no transaction is in flight, or the one in flight is a forward. -/
def State.NoPoll (s : State) : Prop :=
  s.trunk.txn = none ∨ ∃ node z f b timeout, s.trunk.txn = some ⟨.forward node z, f, b, timeout⟩

/-- A frame that is abandoned outside a poll's window is discarded (R142, R144). -/
theorem trunkAbandon_of_noPoll {s : State} (h : s.NoPoll) : trunkAbandon s = s := by
  unfold trunkAbandon
  obtain none | ⟨node, z, f, b, timeout, forward⟩ := h
  · rw [none]
  · rw [forward]

/-- A gap abandons the frame in reception (R142). -/
theorem exec_gap_in_frame {s : State} (inFrame : s.trunk.rx.state ≠ .hunt) : exec .trunkGapAbandon s
    = .next (trunkAbandon (s.modTrunk fun t => { t with rx := Assembler.reset })) := by
  show execTrunkGapAbandon s = _
  unfold execTrunkGapAbandon Assembler.inFrame
  exact congrArg Host.Outcome.next (if_pos (decide_eq_true inFrame))

/-- A byte without its stop bit, or a length byte above 240, abandons the frame in reception (R142, R160). -/
theorem exec_byte_in_frame {s : State} {d : RxByte} {e : RxEvent} (abandons : e = .overLength ∨ e = .framingInFrame)
    (receive : s.trunk.rx.receive d = (Assembler.reset, e)) : exec (.trunkFrameAbandoned d) s
      = .next (trunkAbandon (s.modTrunk fun t => { t with rx := Assembler.reset })) := by
  show execTrunkFrameAbandoned d s = _
  unfold execTrunkFrameAbandoned trunkByte
  rw [receive]
  obtain rfl | rfl := abandons <;> rfl

/-- A whole frame received while no reply window is open is judged as a late one (R156). -/
theorem exec_frame_outside_window {s : State} {f : Frame} (hunting : s.trunk.rx = Assembler.reset)
    (closed : s.trunk.txn = none ∨ ∃ k p timeout, s.trunk.txn = some ⟨k, p, true, timeout⟩) (plain : f.addr ≠ 0xD5)
    (length : f.payload.length ≤ 240) : exec (.trunkFrameReceived (rxBytes f.wire)) s = .next (lateFrame f s) := by
  show Host.Outcome.next ((rxBytes f.wire).foldl trunkByte s) = _
  rw [foldl_trunkByte_wire hunting plain length]
  unfold trunkFrame
  obtain none | ⟨k, p, timeout, sending⟩ := closed
  · rw [none]
  · rw [sending]
    rfl

theorem lateFrame_of_node {f : Frame} {node : Node} (s : State) (crc : f.crcOk = true)
    (station : f.station = node.val + 1) (aisle : f.towardAisle = true) : lateFrame f s = countLate node s := by
  unfold lateFrame
  rw [frame_node_iff.mpr station, crc, aisle]
  rfl

/-- A frame that no node sent with a good CRC is not counted (R138, R156). -/
theorem lateFrame_of_other {f : Frame} (s : State)
    (other : ¬ (f.crcOk = true ∧ 1 ≤ f.station ∧ f.station ≤ 32 ∧ f.towardAisle = true)) : lateFrame f s = s := by
  unfold lateFrame
  split
  · next node own =>
    have station := frame_node_iff.mp own
    refine if_neg fun good => other ?_
    obtain ⟨crc, aisle⟩ := Bool.and_eq_true_iff.mp good
    exact ⟨crc, by omega, by omega, aisle⟩
  · rfl

theorem isReply_iff {node : Node} {f : Frame} :
    isReply node f = true ↔ f.crcOk = true ∧ f.station = node.val + 1 ∧ f.towardAisle = true := by
  unfold isReply
  rw [Bool.and_eq_true, Bool.and_eq_true, decide_eq_true_eq, frame_node_iff, and_assoc]

/-- Settles O16. -/
theorem replyWindowOutlastsStaleAndAbandonedFrames : Obligations.ReplyWindowOutlastsStaleAndAbandonedFrames := by
  unfold Obligations.ReplyWindowOutlastsStaleAndAbandonedFrames
  refine ⟨?_, fun s d inFrame noPoll => ?_, fun s f hunting plain length => ⟨?_, fun closed => ⟨?_, fun other => ?_⟩⟩⟩
  · intro s f node tag motion p timeout hunting window crc length station aisle kind plain stale
    classical
    have sample : f.sampleOf node := ⟨crc, length, station, aisle, kind⟩
    rw [exec_frame_of_window hunting window plain (by omega)]
    unfold windowFrame
    dsimp only
    rw [judge_eq, if_pos sample, if_neg stale]
    rfl
  · have discarded : trunkAbandon (s.modTrunk fun t => { t with rx := Assembler.reset })
        = { s with trunk := { s.trunk with rx := Assembler.reset } } := trunkAbandon_of_noPoll noPoll
    rw [← discarded]
    exact ⟨exec_gap_in_frame inFrame, exec_byte_in_frame (.inr rfl) (receive_framing_error _ rfl _ inFrame),
      fun state kind long => exec_byte_in_frame (.inl rfl) (receive_over_length state kind long)⟩
  · intro node z p timeout window foreign
    rw [exec_frame_of_window hunting window plain length]
    exact congrArg Host.Outcome.next (if_neg (mt isReply_iff.mp foreign))
  · intro node crc station aisle
    rw [exec_frame_outside_window hunting closed plain length, lateFrame_of_node s crc station aisle]
    rfl
  · rw [exec_frame_outside_window hunting closed plain length, lateFrame_of_other s other]

/-! ## The two ends of a forward (R144, R145) -/

section
variable {s : State} {node : Node} {z : Option RezeroSet} {f : Frame} {timeout : Nat}
  (hunting : s.trunk.rx = Assembler.reset)
  (window : s.trunk.txn = some ⟨.forward (some node) z, f, false, timeout⟩)
include hunting window

theorem exec_reply_ends_forward {r : Frame} (length : r.payload.length ≤ 240) (plain : r.addr ≠ 0xD5)
    (reply : isReply node r = true) :
    exec (.trunkFrameReceived (rxBytes r.wire)) s = .next (endForward r z r.okResponse s) := by
  rw [exec_frame_of_window hunting window plain length]
  exact congrArg Host.Outcome.next (if_pos reply)

theorem exec_close_ends_forward : exec .replyWindowClose s
    = .next (endForward (fwdFailFrame node f) z false s) := by
  have same : (s.modTrunk fun t => { t with rx := if t.rx.inFrame then Assembler.reset else t.rx }) = s := by
    have rx : (if s.trunk.rx.inFrame then Assembler.reset else s.trunk.rx) = s.trunk.rx := by
      rw [hunting]
      rfl
    show { s with trunk := { s.trunk with rx := if s.trunk.rx.inFrame then Assembler.reset else s.trunk.rx } } = s
    rw [rx]
  show execReplyWindowClose s = _
  unfold execReplyWindowClose
  dsimp only
  rw [window, same]

end

/-- The state in which the arbiter decides after a forward that is no ZERO: the transaction is over, and its result
stands in the return queue or is counted (R145, R163). -/
def forwardEnded (result : Frame) (s : State) : State := placeReturn result s.endTxn

theorem endForward_none (result : Frame) (ok : Bool) (s : State) :
    endForward result none ok s = arbitrate (forwardEnded result s) := rfl

theorem forwardEnded_room {s : State} (room : s.link.returns.length < 4) (result : Frame) :
    forwardEnded result s = { s with
      trunk := { s.trunk with txn := none }
      link := { s.link with returns := s.link.returns ++ [result] } } :=
  if_pos room

theorem forwardEnded_full {s : State} (full : ¬ s.link.returns.length < 4) (result : Frame) :
    forwardEnded result s = { s with
      trunk := { s.trunk with txn := none }
      mgmt := { s.mgmt with counters := { s.mgmt.counters with
        returnDrop := min 65535 (s.mgmt.counters.returnDrop + 1) } } } :=
  if_neg full

theorem forwardEnded_frame (result : Frame) (s : State) : (forwardEnded result s).trunk = { s.trunk with txn := none }
    ∧ (forwardEnded result s).store = s.store ∧ (forwardEnded result s).chans = s.chans
    ∧ (forwardEnded result s).slots = s.slots
    ∧ (forwardEnded result s).alerts = s.alerts := by
  unfold forwardEnded placeReturn
  split <;> exact ⟨rfl, rfl, rfl, rfl, rfl⟩

theorem TrunkPath.returnDrop {s t : State} (h : TrunkPath s t) :
    t.mgmt.counters.returnDrop = s.mgmt.counters.returnDrop :=
  (congrArg (fun u : State => u.mgmt.counters.returnDrop) h :)

/-- Settles O19: each end is a return and a decision, and a decision is a `TrunkPath`, a `DecisionFrame` and, with
nothing waiting, `TrunkAlone`. -/
theorem forwardEndsWithReplyOrFailure : Obligations.ForwardEndsWithReplyOrFailure := by
  unfold Obligations.ForwardEndsWithReplyOrFailure
  intro s node f r timeout hunting window crc length plain station aisle p hp
  obtain ⟨ok, ended⟩ : ∃ ok, exec p.1 s = .next (endForward p.2 none ok s) := by
    rw [List.mem_cons, List.mem_singleton] at hp
    obtain rfl | rfl := hp
    · exact ⟨_, exec_reply_ends_forward hunting window length plain (isReply_iff.mpr ⟨crc, station, aisle⟩)⟩
    · exact ⟨_, exec_close_ends_forward hunting window⟩
  rw [endForward_none] at ended
  obtain ⟨trunk, store, chans, slots, alerts⟩ := forwardEnded_frame p.2 s
  have path := arbitrate_trunkPath (forwardEnded p.2 s)
  have nodes := (decisionFrame_decides.arbitrate (forwardEnded p.2 s)).nodes
  refine ⟨_, ended, rfl, fun empty idle => ?_, ?_, fun n => ?_⟩
  · obtain ⟨same, -⟩ := trunkAlone_decides.arbitrate (forwardEnded p.2 s) (by rw [store]; exact idle)
      (by rw [trunk]; exact empty)
    rw [same]
    exact ⟨chans, slots, alerts⟩
  · rw [path.link, path.returnDrop]
    split
    · next room => rw [forwardEnded_room room]; exact ⟨rfl, rfl⟩
    · next full => rw [forwardEnded_full full]; exact ⟨rfl, rfl⟩
  · have kept : (forwardEnded p.2 s).node n = s.node n := by
      unfold State.node
      rw [trunk]
    rw [← kept]
    exact nodes n

end Sys2Proof.Machine
end

section
/-!
PROOFS. The motion list (O23): an offer takes a node once or counts it, a node that leaves takes its place with it and
leaves the pointer at the node it stood at, and the nodes that leave with a slot are those no longer needed (R149 to
R151).
-/

namespace Sys2Proof.Machine

/-! ## A node leaves the motion list (R150) -/

/-- The pointer of a list that position `i` is taken out of stays with the node it stood at. -/
theorem getElem?_pointerAfterLeave {l : List Node} {i ptr : Nat} {m : Node} (here : l[ptr]? = some m)
    (inside : i < l.length) (apart : ptr ≠ i) : (l.eraseIdx i)[pointerAfterLeave ptr i l.length]? = some m := by
  obtain ⟨below, -⟩ := List.getElem?_eq_some_iff.mp here
  unfold pointerAfterLeave
  obtain before | after := Nat.lt_or_gt_of_ne apart
  · rw [if_neg (Nat.lt_asymm before), if_neg (by omega), List.getElem?_eraseIdx_of_lt before, here]
  · rw [if_pos after, if_neg (by omega), List.getElem?_eraseIdx_of_ge (by omega), Nat.sub_add_cancel (by omega), here]

theorem dropNode_motionNode {t : Trunk} {node m : Node} (listed : node ∈ t.motionList) (here : t.motionNode = some m)
    (other : m ≠ node) : (t.dropNode node).motionNode = some m := by
  have position := List.idxOf_lt_length_of_mem listed
  have apart : t.motionPtr ≠ t.motionList.idxOf node := by
    rintro same
    have found : t.motionList[t.motionPtr]? = some node := by
      rw [same, List.getElem?_eq_getElem position, List.getElem_idxOf]
    exact other (Option.some.inj (here.symm.trans found))
  show (t.motionList.erase node)[_]? = some m
  rw [List.erase_eq_eraseIdx_of_idxOf rfl]
  exact getElem?_pointerAfterLeave here position apart

theorem mem_dropNode_of_ne {t : Trunk} {node m : Node} (other : m ≠ node) :
    m ∈ (t.dropNode node).motionList ↔ m ∈ t.motionList := List.mem_erase_of_ne other

/-! ## The nodes that leave with a slot (R151) -/

theorem leaveIfFree_motionListOk (b : Bank) {s : State} (ok : MotionListOk s.trunk) (node : Node) :
    MotionListOk (leaveIfFree b s node).trunk := by
  unfold leaveIfFree
  split
  · next leaves => exact motionListOk_dropNode node leaves.1 ok
  · exact ok

theorem foldl_leaveIfFree_motionListOk (b : Bank) (ns : List Node) {s : State} (ok : MotionListOk s.trunk) :
    MotionListOk (ns.foldl (leaveIfFree b) s).trunk := by
  induction ns generalizing s with
  | nil => exact ok
  | cons x ns ih => exact ih (leaveIfFree_motionListOk b ok x)

/-- Leaving the motion list changes nothing that says whether a node is needed. -/
theorem leaveIfFree_needed (b : Bank) (s : State) (x node : Node) :
    needed b node (leaveIfFree b s x) = needed b node s := by
  unfold leaveIfFree
  split <;> rfl

/-- The pointer stays at its node while others leave. -/
theorem foldl_leaveIfFree_motionNode (b : Bank) (ns : List Node) {s : State} {node : Node}
    (here : s.trunk.motionNode = some node) (stays : node ∈ ns → needed b node s = true) :
    (ns.foldl (leaveIfFree b) s).trunk.motionNode = some node := by
  induction ns generalizing s with
  | nil => exact here
  | cons x ns ih =>
    refine ih ?_ fun later => (leaveIfFree_needed b s x node).trans (stays (List.mem_cons_of_mem x later))
    unfold leaveIfFree
    split
    · next leaves =>
      refine dropNode_motionNode leaves.1 here ?_
      rintro rfl
      rw [stays List.mem_cons_self] at leaves
      exact Bool.noConfusion leaves.2
    · exact here

/-- Settles O23: the offers by their three cases, one departure, and the run of departures at the end of a motion. -/
theorem motionListTakesNodesOnceAndKeepsItsPointer : Obligations.MotionListTakesNodesOnceAndKeepsItsPointer := by
  unfold Obligations.MotionListTakesNodesOnceAndKeepsItsPointer
  refine ⟨fun node s => ⟨offerNode_listed, offerNode_joins, offerNode_refused⟩, fun t node ok listed => ?_,
    fun b n s ok => ?_⟩
  · exact ⟨motionListOk_dropNode node listed ok, ok.2.1.not_mem_erase, fun m => mem_dropNode_of_ne,
      fun m here other => dropNode_motionNode listed here other⟩
  · have list := leaveMotion_motionList b n ok.2.1
    refine ⟨?_, ?_, fun node => ?_, foldl_leaveIfFree_motionListOk b _ ok, fun node here stays => ?_⟩
    · obtain ⟨l, p, left⟩ := leaveMotion_eq b n s
      rw [left]
    · rw [list]
      exact List.filter_sublist
    · rw [list, List.mem_filter, Bool.or_eq_true, decide_eq_true_eq, mem_memberNodes_iff, needed_iff]
    · refine foldl_leaveIfFree_motionNode b _ here fun carried => ?_
      exact needed_iff.mpr (stays.resolve_left fun apart => apart (mem_memberNodes_iff.mp carried))

end Sys2Proof.Machine
end

section
/-!
PROOFS. The requests under ADMIN (O54): CLEAR_COUNTERS, READ_FAULTS and SOFT_RESET (R174 to R176, R186), and that no
request is taken once a SOFT_RESET has been accepted (R176).
-/

namespace Sys2Proof.Machine

/-! ## The three requests of a source with ADMIN -/

section
variable {s : State} {src : Source} (admin : s.zones.admin src = true) (args : List Byte)
include admin

theorem clearRequest_of_admin : clearRequest src args s = .plain .ok { s with
    mgmt := { s.mgmt with counters := Counters.zero }
    trunk := { s.trunk with nodes := s.trunk.nodes.map fun r => { r with polls := 0, misses := 0, late := 0 } } } :=
  if_neg (by rw [admin]; decide)

theorem faultsRequest_of_admin : faultsRequest src args s = {
    status := .ok
    results := trunkCaptureBytes s.trunk.capture ++ protCaptureBytes s.zones.capture
    state := { s with trunk := { s.trunk with capture := none }, zones := { s.zones with capture := none } } } :=
  if_neg (by rw [admin]; decide)

theorem softResetRequest_of_admin : softResetRequest src args s
    = .plain .ok { s with mgmt := { s.mgmt with softReset := true } } :=
  if_neg (by rw [admin]; decide)

end

/-! ## After an accepted SOFT_RESET (R176) -/

theorem nextRequest_of_softReset {s : State} (accepted : s.mgmt.softReset = true) : s.nextRequest = none := by
  unfold State.nextRequest
  rw [accepted, Bool.or_true]
  rfl

/-- The rows that take a request that is well formed. -/
def requestRows : List Instr := [.loadRecords, .readRecords, .copyBank, .switchBank, .cancelSwitch, .openRestock,
  .closeRestock, .ackSlot, .setAlertMask, .setZone, .setSourceRights, .lockZones, .readStatus, .readSlot, .readChannel,
  .readNodes, .readCounters, .clearCounters, .readFaults, .softReset]

/-- Each of these rows takes the request of its code. -/
theorem exec_requestRows : ∀ c ∈ requestRows, ∃ code k, ∀ s, exec c s = .next (takeRequest code k s) := by
  unfold requestRows
  simp only [List.forall_mem_cons]
  refine ⟨⟨_, _, fun _ => rfl⟩, ⟨_, _, fun _ => rfl⟩, ⟨_, _, fun _ => rfl⟩, ⟨_, _, fun _ => rfl⟩, ⟨_, _, fun _ => rfl⟩,
    ⟨_, _, fun _ => rfl⟩, ⟨_, _, fun _ => rfl⟩, ⟨_, _, fun _ => rfl⟩, ⟨_, _, fun _ => rfl⟩, ⟨_, _, fun _ => rfl⟩,
    ⟨_, _, fun _ => rfl⟩, ⟨_, _, fun _ => rfl⟩, ⟨_, _, fun _ => rfl⟩, ⟨_, _, fun _ => rfl⟩, ⟨_, _, fun _ => rfl⟩,
    ⟨_, _, fun _ => rfl⟩, ⟨_, _, fun _ => rfl⟩, ⟨_, _, fun _ => rfl⟩, ⟨_, _, fun _ => rfl⟩, ⟨_, _, fun _ => rfl⟩, nofun⟩

theorem exec_undefined_of_none {s : State} (none : s.nextRequest = none) : exec .undefinedRequest s = .next s := by
  show execUndefinedRequest s = _
  unfold execUndefinedRequest
  rw [none]

/-- Settles O54. -/
theorem adminRequestsClearReadAndReset : Obligations.AdminRequestsClearReadAndReset := by
  unfold Obligations.AdminRequestsClearReadAndReset
  refine ⟨fun s f src admin => ⟨fun h => ?_, fun h => ?_, fun h => ?_⟩, fun s accepted c row => ?_⟩
  · exact congrArg Host.Outcome.next (takeRequest_answer h (clearRequest_of_admin (s := s.dropRequest) admin []))
  · exact congrArg Host.Outcome.next (takeRequest_answer h (faultsRequest_of_admin (s := s.dropRequest) admin []))
  · exact congrArg Host.Outcome.next (takeRequest_answer h (softResetRequest_of_admin (s := s.dropRequest) admin []))
  · have none := nextRequest_of_softReset accepted
    have listed : c ∈ requestRows ++ [.undefinedRequest] := row
    obtain request | last := List.mem_append.mp listed
    · obtain ⟨code, k, taken⟩ := exec_requestRows c request
      rw [taken, takeRequest_of_none none]
    · rw [List.mem_singleton.mp last]
      exact exec_undefined_of_none none

end Sys2Proof.Machine
end

section
/-!
PROOFS. The aisle link, receiving (O10, O11, O12): what a byte makes of the assembler, what its event makes of the state
(R158 to R160), and where dispatch places a complete frame (R161, R162).
-/

namespace Sys2Proof.Machine

/-! ## One byte -/

theorem linkByte_of_receive {s : State} {b : RxByte} {a : Assembler} {e : RxEvent}
    (receive : s.link.rx.receive b = (a, e)) : linkByte s b = linkEvent e (s.modLink fun l => { l with rx := a }) := by
  unfold linkByte
  rw [receive]

/-- A run of one byte has the effect of that byte. -/
theorem exec_linkByte_of_receive {s : State} {b : RxByte} {a : Assembler} {e : RxEvent}
    (receive : s.link.rx.receive b = (a, e)) : exec (.alinkFrameReceived [b]) s
      = .next (linkEvent e (s.modLink fun l => { l with rx := a })) :=
  congrArg Host.Outcome.next (linkByte_of_receive receive)

/-! ## HUNT (R158) -/

theorem receive_stopless_hunting {a : Assembler} (hunting : a.state = .hunt) (d : Byte) :
    a.receive ⟨d, false⟩ = (Assembler.reset, .framingInHunt) := by
  unfold Assembler.receive
  rw [hunting]
  rfl

/-- With fewer than four preamble bytes before it a byte is discarded (R158). -/
theorem receive_discarded {a : Assembler} {d : Byte} (hunting : a.state = .hunt) (plain : d ≠ 0xD5)
    (early : a.preamble ≠ 4) : a.receive ⟨d, true⟩ = ({ a with preamble := 0 }, .nothing) := by
  rw [receive_hunting hunting]
  unfold Assembler.hunt
  rw [if_neg plain, if_neg early]

/-- In HUNT a byte changes the assembler and, without its stop bit, the framing error count. -/
theorem linkByte_hunting {s : State} (hunting : s.link.rx.state = .hunt) (b : RxByte) : linkByte s b = { s with
    link := { s.link with rx := (s.link.rx.receive b).1 }
    mgmt := { s.mgmt with counters := { s.mgmt.counters with
      framing := if b.stop then s.mgmt.counters.framing else min 65535 (s.mgmt.counters.framing + 1) } } } := by
  obtain ⟨d, _ | _⟩ := b
  · have receive := receive_stopless_hunting hunting d
    rw [linkByte_of_receive receive, receive]
    rfl
  · have receive := receive_hunting hunting d
    rw [linkByte_of_receive receive, receive]
    rfl

theorem Assembler.inFrame_of_hunting {a : Assembler} (hunting : a.state = .hunt) : ¬ a.inFrame = true := by
  unfold Assembler.inFrame
  simp [hunting]

/-- In HUNT a byte is the same event on either row. -/
theorem exec_byte_hunting {s : State} (hunting : s.link.rx.state = .hunt) (b : RxByte) :
    exec (.huntByteReceived b) s = .next (linkByte s b) ∧ exec (.alinkFrameReceived [b]) s = .next (linkByte s b) :=
  ⟨congrArg Host.Outcome.next (if_neg (Assembler.inFrame_of_hunting hunting)), rfl⟩

/-- The bit that is always zero is set in 0xD5 (R158). -/
theorem addrByte_ne_preamble (station : Nat) (aisle : Bool) : addrByte station aisle ≠ 0xD5 := by
  intro same
  have value : (station * 4 + if aisle then 2 else 0) % 256 = 0xD5 := congrArg BitVec.toNat same
  split at value <;> omega

/-- Settles O11. -/
theorem huntCountsThePreambleAndStartsAFrame : Obligations.HuntCountsThePreambleAndStartsAFrame := by
  unfold Obligations.HuntCountsThePreambleAndStartsAFrame
  refine ⟨fun strap s => ⟨_, rfl, rfl, rfl⟩, fun ⟨d, stop⟩ s hunting _ => ?_, fun s hunting => ?_,
    addrByte_ne_preamble⟩
  · obtain ⟨event, run⟩ := exec_byte_hunting hunting ⟨d, stop⟩
    rw [linkByte_hunting hunting] at event run
    refine ⟨_, event, run, rfl, ?_, ?_, ?_, ?_⟩ <;> dsimp only
    · rintro rfl
      rw [receive_stopless_hunting hunting]
      exact ⟨rfl, rfl⟩
    · rintro rfl rfl
      rw [receive_preamble hunting]
      exact ⟨hunting, rfl⟩
    · rintro rfl plain few
      rw [receive_discarded hunting plain few.ne]
      exact ⟨hunting, rfl⟩
    · rintro rfl plain counted
      rw [receive_address hunting counted plain]
      exact ⟨rfl, rfl, rfl⟩
  · exact congrArg Host.Outcome.next (if_neg (Assembler.inFrame_of_hunting hunting))

/-! ## Abandoned frames (R160) -/

theorem beNat_two_lt (hi lo : Byte) : beNat [hi, lo] < 65536 := by
  have := hi.isLt
  have := lo.isLt
  simp only [beNat, List.foldl_cons, List.foldl_nil]
  omega

/-- The second CRC byte completes the frame (R159). -/
theorem receive_last {a : Assembler} {k hi : Byte} (state : a.state = .check) (kind : a.kind = some k)
    (high : a.crcHigh = some hi) (d : Byte) : a.receive ⟨d, true⟩
      = (Assembler.reset, .frame ⟨a.addr, k, a.payload, BitVec.ofNat 16 (beNat [hi, d])⟩) := by
  unfold Assembler.receive Assembler.check
  rw [state, high, kind]
  rfl

/-- A received CRC that differs as a number differs as a word. -/
theorem crcOk_of_ne {addr kind hi lo : Byte} {payload : List Byte}
    (differs : beNat [hi, lo] ≠ (crc16 (crcCovered addr kind payload)).toNat) :
    ¬ (Frame.mk addr kind payload (BitVec.ofNat 16 (beNat [hi, lo]))).crcOk = true := by
  intro ok
  have same : BitVec.ofNat 16 (beNat [hi, lo]) = crc16 (crcCovered addr kind payload) := of_decide_eq_true ok
  refine differs ?_
  rw [← same, BitVec.toNat_ofNat]
  exact (Nat.mod_eq_of_lt (beNat_two_lt hi lo)).symm

/-- Settles O12: each cause has its event, and the event its counter. -/
theorem abandonedFramesAreCountedAndDiscarded : Obligations.AbandonedFramesAreCountedAndDiscarded := by
  unfold Obligations.AbandonedFramesAreCountedAndDiscarded
  refine fun s inFrame => ⟨?_, fun d => ?_, fun d state kind long => ?_, fun k hi d state kind high differs => ?_⟩
  · exact congrArg Host.Outcome.next (if_pos (decide_eq_true inFrame))
  · exact exec_linkByte_of_receive (receive_framing_error ⟨d, false⟩ rfl _ inFrame)
  · exact exec_linkByte_of_receive (receive_over_length state kind long)
  · rw [exec_linkByte_of_receive (receive_last state kind high d)]
    exact congrArg Host.Outcome.next (if_neg (crcOk_of_ne differs))

/-! ## Dispatch (Table 10-2) -/

/-- The first row of Table 10-2: a request to the part's own station. -/
def Frame.OwnRequest (f : Frame) (s : State) : Prop :=
  f.station = 56 + s.strap.toNat ∧ f.towardAisle = false ∧ f.zeroBit = false ∧ f.kindCode = 8

/-- The second row of Table 10-2: a command to a node, or to all of them. -/
def Frame.NodeCommand (f : Frame) : Prop :=
  f.station ≤ 32 ∧ f.towardAisle = false ∧ f.zeroBit = false ∧ f.kindCode = 3

section
variable {f : Frame} {s : State}

theorem dispatch_of_request (own : f.OwnRequest s) : dispatch f s = queueRequest f s := if_pos own

theorem Frame.NodeCommand.not_ownRequest (command : f.NodeCommand) : ¬ f.OwnRequest s := by
  obtain ⟨-, -, -, command⟩ := command
  rintro ⟨-, -, -, request⟩
  exact absurd (command.symm.trans request) (by decide)

theorem dispatch_of_command (command : f.NodeCommand) : dispatch f s = queueForward f s :=
  (if_neg command.not_ownRequest).trans (if_pos command)

theorem dispatch_of_other (noRequest : ¬ f.OwnRequest s) (noCommand : ¬ f.NodeCommand) :
    dispatch f s = s.modCounters fun c => { c with misdirected := min 65535 (c.misdirected + 1) } :=
  (if_neg noRequest).trans (if_neg noCommand)

theorem exec_frame_of_link (length : f.payload.length ≤ 240) (plain : f.addr ≠ 0xD5) (crc : f.crcOk = true)
    (idle : s.link.rx = Assembler.reset) : exec (.alinkFrameReceived (rxBytes f.wire)) s = .next (dispatch f s) := by
  have hunting : s.link.rx.state = .hunt := congrArg Assembler.state idle
  obtain ⟨assembled, -⟩ := wireFramesAreAssembledOnBothLines f s length plain
  rw [assembled crc hunting, ← idle]

end

/-- Settles O10. -/
theorem dispatchPlacesEachFrameByTable102 : Obligations.DispatchPlacesEachFrameByTable102 := by
  unfold Obligations.DispatchPlacesEachFrameByTable102
  intro f s length plain crc idle
  dsimp only
  rw [exec_frame_of_link length plain crc idle]
  refine ⟨fun own room => ?_, fun own full => ?_, fun command room busy => ?_, fun command full => ?_,
    fun noRequest noCommand => ?_⟩
  · rw [dispatch_of_request own]
    exact congrArg Host.Outcome.next (if_pos room)
  · rw [dispatch_of_request own]
    exact congrArg Host.Outcome.next (if_neg full.not_gt)
  · rw [dispatch_of_command command]
    exact congrArg Host.Outcome.next ((if_pos room).trans (arbitrate_of_busy busy))
  · rw [dispatch_of_command command]
    exact congrArg Host.Outcome.next (if_neg full.not_gt)
  · rw [dispatch_of_other noRequest noCommand]
    rfl

end Sys2Proof.Machine
end

section
/-!
PROOFS. The uplink (O13): to which producer it is granted, and what each grant does (R163 to R165).
-/

namespace Sys2Proof.Machine

/-! ## The producer (R164) -/

section
variable {s : State}

theorem granted_mgmt_iff : s.granted = some .mgmt ↔ s.link.uplink = none ∧ s.mgmt.response ≠ none := by
  unfold State.granted
  split_ifs <;> simp_all [Option.isSome_iff_ne_none]

theorem granted_returns_iff : s.granted = some .returns
    ↔ s.link.uplink = none ∧ s.mgmt.response = none ∧ s.link.returns ≠ [] := by
  unfold State.granted
  split_ifs <;> simp_all [Option.isSome_iff_ne_none]

theorem granted_alerts_iff : s.granted = some .alerts
    ↔ s.link.uplink = none ∧ s.mgmt.response = none ∧ s.link.returns = [] ∧ s.alerts ≠ [] := by
  unfold State.granted
  split_ifs <;> simp_all [Option.isSome_iff_ne_none]

/-! ## Grants that are not due (assumption 5) -/

theorem exec_responsePartGrant_of_not_due (h : ¬ s.granted = some .mgmt) : exec .responsePartGrant s = .next s :=
  congrArg Host.Outcome.next (if_neg h)

theorem exec_returnFrameGrant_of_not_due (h : ¬ s.granted = some .returns) : exec .returnFrameGrant s = .next s :=
  congrArg Host.Outcome.next (if_neg h)

theorem exec_alertGrant_of_not_due (h : ¬ s.granted = some .alerts) : exec .alertGrant s = .next s :=
  congrArg Host.Outcome.next (if_neg h)

/-! ## Grants that are due -/

/-- A response is given up with its last part (R166). -/
theorem Response.rest_cons (tag : BitVec 4) (p : List Byte) (ps : List (List Byte)) :
    Response.rest ⟨tag, p :: ps⟩ = if ps = [] then none else some ⟨tag, ps⟩ := by
  cases ps <;> rfl

theorem exec_responsePartGrant_of_due {tag : BitVec 4} {p : List Byte} {ps : List (List Byte)}
    (idle : s.link.uplink = none) (response : s.mgmt.response = some ⟨tag, p :: ps⟩) :
    exec .responsePartGrant s = .next { s with
      link := { s.link with uplink := some ⟨ownFrame s tag kindMgmtResp p, s.mgmt.softReset⟩ }
      mgmt := { s.mgmt with response := if ps = [] then none else some ⟨tag, ps⟩ } } := by
  have due : s.granted = some .mgmt := granted_mgmt_iff.mpr ⟨idle, by simp [response]⟩
  show execResponsePartGrant s = _
  unfold execResponsePartGrant
  rw [if_pos due, response, ← Response.rest_cons]
  rfl

theorem exec_returnFrameGrant_of_due {f : Frame} {rest : List Frame} (idle : s.link.uplink = none)
    (answered : s.mgmt.response = none) (returns : s.link.returns = f :: rest) :
    exec .returnFrameGrant s
      = .next { s with link := { s.link with returns := rest, uplink := some ⟨f, false⟩ } } := by
  have due : s.granted = some .returns := granted_returns_iff.mpr ⟨idle, answered, by simp [returns]⟩
  show execReturnFrameGrant s = _
  unfold execReturnFrameGrant
  rw [if_pos due, returns]
  rfl

end

/-- The last byte of a frame that is no SOFT_RESET response leaves the uplink idle (R164). -/
theorem exec_uplinkFrameDone_of_plain {s : State} {f : Frame} (sending : s.link.uplink = some ⟨f, false⟩) :
    exec .uplinkFrameDone s = .next { s with link := { s.link with uplink := none } } := by
  have noReset : ¬ s.atResetPoint = true := by
    unfold State.atResetPoint
    simp [sending]
  exact congrArg Host.Outcome.next (if_neg noReset)

/-- Settles O13. -/
theorem uplinkGrantsFollowTheirOrder : Obligations.UplinkGrantsFollowTheirOrder := by
  unfold Obligations.UplinkGrantsFollowTheirOrder
  refine ⟨fun s idle => ⟨fun tag p ps response => ⟨exec_responsePartGrant_of_due idle response, ?_, ?_⟩,
      fun answered => ?_⟩,
    fun s f rest idle answered returns => ⟨exec_returnFrameGrant_of_due idle answered returns, ?_⟩,
    fun s empty => ?_, fun s empty => ?_, fun s sending => ?_, fun s f => exec_uplinkFrameDone_of_plain⟩
  · exact exec_returnFrameGrant_of_not_due (by simp [granted_returns_iff, response])
  · exact exec_alertGrant_of_not_due (by simp [granted_alerts_iff, response])
  · exact exec_responsePartGrant_of_not_due (by simp [granted_mgmt_iff, answered])
  · exact exec_alertGrant_of_not_due (by simp [granted_alerts_iff, returns])
  · exact exec_returnFrameGrant_of_not_due (by simp [granted_returns_iff, empty])
  · exact exec_alertGrant_of_not_due (by simp [granted_alerts_iff, empty])
  · have busy : s.link.uplink ≠ none := Option.isSome_iff_ne_none.mp sending
    exact ⟨exec_responsePartGrant_of_not_due (by simp [granted_mgmt_iff, busy]),
      exec_returnFrameGrant_of_not_due (by simp [granted_returns_iff, busy]),
      exec_alertGrant_of_not_due (by simp [granted_alerts_iff, busy])⟩

end Sys2Proof.Machine
end

section
/-!
PROOFS. Requests that fail the header, code or shape check (O52), and the parts of a response (O55) (R166, R189).
-/

namespace Sys2Proof.Machine

/-! ## The header, code and shape checks -/

theorem screen_of_short {payload : List Byte} (short : payload.length < 2) :
    screen payload = .bad 0x00 .badRequest := by
  match payload, short with
  | [], _ => rfl
  | [_], _ => rfl

section
variable {src code : Byte} {args : List Byte}

theorem screen_of_source (large : 7 < src.toNat) : screen (src :: code :: args) = .bad code .badField :=
  dif_neg (Nat.not_lt.mpr large)

theorem screen_of_unknown (small : src.toNat ≤ 7) (unknown : requestShape code = none) :
    screen (src :: code :: args) = .bad code .badRequest := by
  unfold screen
  dsimp only
  rw [dif_pos (show src.toNat < 8 from Nat.lt_succ_of_le small), unknown]

theorem screen_of_misfit (small : src.toNat ≤ 7) {sh : Shape} (shape : requestShape code = some sh)
    (misfit : sh.fits args = false) : screen (src :: code :: args) = .bad code .badRequest := by
  unfold screen
  dsimp only
  rw [dif_pos (show src.toNat < 8 from Nat.lt_succ_of_le small), shape]
  exact if_neg (Bool.eq_false_iff.mp misfit)

end

section
variable {s : State} {f : Frame} {code : Byte} {status : Status} (taken : s.nextRequest = some f)
  (bad : screen f.payload = .bad code status)
include taken bad

theorem exec_undefined_of_bad : exec .undefinedRequest s = .next (s.answered f code status []) := by
  show execUndefinedRequest s = _
  unfold execUndefinedRequest
  rw [taken]
  dsimp only
  rw [bad]
  rfl

/-- A request row leaves a request that fails the checks where it stands (assumption 5). -/
theorem takeRequest_of_bad (row : Byte) (k : Source → List Byte → State → Answer) : takeRequest row k s = s := by
  unfold takeRequest
  rw [taken]
  dsimp only
  rw [bad]

end

theorem nextRequest_of_head {s : State} {f : Frame} (answered : s.mgmt.response = none)
    (running : s.mgmt.softReset = false) (head : s.mgmt.requests.head? = some f) : s.nextRequest = some f := by
  unfold State.nextRequest
  rw [answered, running, head]
  rfl

/-- Settles O52: each failure is an outcome of the screen, and `exec_undefined_of_bad` answers it. -/
theorem undefinedRequestIsAnsweredAndChangesNothing : Obligations.UndefinedRequestIsAnsweredAndChangesNothing := by
  unfold Obligations.UndefinedRequestIsAnsweredAndChangesNothing
  intro s f answered running head
  have taken := nextRequest_of_head answered running head
  refine ⟨fun short => exec_undefined_of_bad taken (screen_of_short short), fun src code args payload => ?_⟩
  have screened := congrArg screen payload
  refine ⟨fun large => ?_, fun small unknown => ?_, fun small sh shape misfit => ?_⟩
  · have bad : screen f.payload = .bad code .badField := screened.trans (screen_of_source large)
    exact ⟨exec_undefined_of_bad taken bad, congrArg Host.Outcome.next (takeRequest_of_bad taken bad _ _),
      congrArg Host.Outcome.next (takeRequest_of_bad taken bad _ _)⟩
  · exact exec_undefined_of_bad taken (screened.trans (screen_of_unknown small unknown))
  · exact exec_undefined_of_bad taken (screened.trans (screen_of_misfit small shape misfit))

/-! ## The parts of a response -/

/-- How many parts carry this many result bytes: one at least, of 237 bytes each (R189). -/
def partCount (size : Nat) : Nat := max 1 ((size + 236) / 237)

theorem partCount_of_le {size : Nat} (fits : size ≤ 237) : partCount size = 1 := by
  unfold partCount
  omega

theorem partCount_of_lt {size : Nat} (more : 237 < size) : partCount size = partCount (size - 237) + 1 := by
  unfold partCount
  omega

theorem le_partCount (size : Nat) : size ≤ 237 * partCount size := by
  unfold partCount
  omega

/-- The result bytes of part `i`. -/
def partResults (results : List Byte) (i : Nat) : List Byte := (results.drop (237 * i)).take 237

theorem partResults_drop (results : List Byte) (i : Nat) :
    partResults (results.drop 237) i = partResults results (i + 1) := by
  unfold partResults
  rw [List.drop_drop, Nat.mul_succ, Nat.add_comm]

theorem partResults_of_le {results : List Byte} (fits : results.length ≤ 237) : partResults results 0 = results :=
  List.take_of_length_le fits

/-- The first `k` parts carry the first `237 * k` bytes. -/
theorem flatMap_partResults (results : List Byte) (k : Nat) :
    (List.range k).flatMap (partResults results) = results.take (237 * k) := by
  induction k with
  | zero => rfl
  | succ k ih =>
    rw [List.range_succ, List.flatMap_append, ih, List.flatMap_singleton, Nat.mul_succ, List.take_add]
    rfl

/-- Fuel for one part per byte is enough to cut them all. -/
theorem cutParts_eq (code : Byte) (status : Status) {fuel : Nat} (number : Nat) {results : List Byte}
    (enough : results.length ≤ fuel) : cutParts code status fuel number results
      = (List.range (partCount results.length)).map fun i =>
        partPayload code status (number + i) (i + 1 = partCount results.length) (partResults results i) := by
  induction fuel generalizing number results with
  | zero =>
    obtain rfl := List.eq_nil_of_length_eq_zero (Nat.le_zero.mp enough)
    rfl
  | succ fuel ih =>
    rw [cutParts]
    split
    · next fits =>
      rw [partCount_of_le fits, List.range_one, List.map_singleton, partResults_of_le fits]
      rfl
    · next long =>
      have more : 237 < results.length := Nat.lt_of_not_le long
      have left : (results.drop Config.partBytes).length = results.length - 237 := List.length_drop
      have pos : 0 < partCount (results.length - 237) := Nat.lt_of_lt_of_le Nat.one_pos (Nat.le_max_left ..)
      rw [ih (number + 1) (by omega), left, partCount_of_lt more, List.range_succ_eq_map, List.map_cons, List.map_map]
      congr 1
      · rw [decide_eq_false (by omega)]
        rfl
      · refine List.map_congr_left fun i _ => ?_
        simp only [Function.comp_apply, partResults_drop, Nat.succ_eq_add_one, Nat.add_right_cancel_iff,
          Nat.add_assoc, Nat.add_comm 1 i]

/-- Settles O55. -/
theorem responsePartsCarryAllResultsInOrder : Obligations.ResponsePartsCarryAllResultsInOrder := by
  unfold Obligations.ResponsePartsCarryAllResultsInOrder
  intro code status results _
  have parts : responseParts code status results = _ := cutParts_eq code status 0 le_rfl
  have length : (responseParts code status results).length = partCount results.length := by
    rw [parts, List.length_map, List.length_range]
  refine ⟨length, fun i p at_ => ?_, ?_⟩
  · rw [length]
    rw [parts, List.getElem?_map, Option.map_eq_some_iff] at at_
    obtain ⟨j, here, rfl⟩ := at_
    obtain ⟨_, rfl⟩ := List.getElem?_eq_some_iff.mp here
    simp only [List.getElem_range, partPayload, partResults, decide_eq_true_eq, Nat.zero_add]
  · rw [parts, List.flatMap_map]
    exact (flatMap_partResults results _).trans (List.take_of_length_le (le_partCount _))

end Sys2Proof.Machine
end

section
/-!
PROOFS. How a right is resolved (O48), and the requests that replace a zone or a source's entry, or set the lock (O50)
(R178 to R184, R189).
-/

namespace Sys2Proof.Machine

/-! ## Covering zones (R178, R180) -/

theorem Zone.covers_iff {w : Zone} {n : Slot} : w.covers n = true ↔ w.first ≤ n ∧ n ≤ w.last := by
  unfold Zone.covers
  rw [Bool.and_eq_true, decide_eq_true_iff, decide_eq_true_iff]

theorem Zone.covers_of_reversed {w : Zone} (reversed : w.last < w.first) (n : Slot) : w.covers n = false :=
  Bool.eq_false_iff.mpr fun covers =>
    have ⟨lower, upper⟩ := Zone.covers_iff.mp covers
    absurd (lower.trans upper) (not_le.mpr reversed)

/-- The zones that cover a slot, in the order of the table. -/
def Zones.covering (z : Zones) (n : Slot) : List Zone := z.zones.toList.filter (·.covers n)

theorem Zones.holds_eq (z : Zones) (src : Source) (right : SlotRight) (n : Slot) : z.holds src right n =
    if (z.covering n).isEmpty then (z.rights[src]).dflt.holds right
    else (z.covering n).any fun zone => (zone.grants[src]).holds right := rfl

theorem Zones.mem_covering_iff {z : Zones} {n : Slot} {w : Zone} :
    w ∈ z.covering n ↔ ∃ i : Fin 4, z.zones[i] = w ∧ w.first ≤ n ∧ n ≤ w.last := by
  rw [Zones.covering, List.mem_filter, Zone.covers_iff, Vector.mem_toList_iff, Vector.mem_iff_getElem]
  exact ⟨fun ⟨⟨i, lt, here⟩, covers⟩ => ⟨⟨i, lt⟩, here, covers⟩, fun ⟨i, here, covers⟩ => ⟨⟨i, i.isLt, here⟩, covers⟩⟩

/-- An element that a filter drops may be replaced by another that it drops. -/
theorem filter_set_of_not {α : Type} {p : α → Bool} {w : α} (after : p w = false) :
    ∀ (l : List α) (i : Nat) (lt : i < l.length), p l[i] = false → (l.set i w).filter p = l.filter p
  | x :: xs, 0, _, before => by
    have dropped : p x = false := before
    simp [after, dropped]
  | x :: xs, i + 1, lt, before => by
    rw [List.set_cons_succ, List.filter_cons, List.filter_cons,
      filter_set_of_not after xs i (Nat.lt_of_succ_lt_succ lt) before]

/-- A zone that covers no slot, replaced by another that covers none, leaves the covering zones as they are. -/
theorem Zones.covering_set_of_reversed {z : Zones} {i : Fin 4} {w : Zone} (after : w.last < w.first)
    (before : (z.zones[i]).last < (z.zones[i]).first) (n : Slot) :
    Zones.covering { z with zones := z.zones.set i w } n = z.covering n := by
  unfold Zones.covering
  rw [Vector.toList_set]
  refine filter_set_of_not (p := (Zone.covers · n)) (Zone.covers_of_reversed after n) _ _ ?_ ?_
  · rw [Vector.length_toList]
    exact i.isLt
  · rw [Vector.getElem_toList]
    exact Zone.covers_of_reversed before n

/-- Settles O48, by whether the list of covering zones is empty. -/
theorem rightsAreResolvedFromZonesThenDefaults : Obligations.RightsAreResolvedFromZonesThenDefaults := by
  intro z src right n
  refine ⟨⟨rfl, rfl⟩, fun ⟨i, covers⟩ => ?_, fun uncovered => ?_, fun i w after before => ?_⟩
  · have some_covers : ¬ (z.covering n).isEmpty = true := fun empty =>
      List.ne_nil_of_mem (Zones.mem_covering_iff.mpr ⟨i, rfl, covers⟩) (List.isEmpty_iff.mp empty)
    rw [Zones.holds_eq, if_neg some_covers, List.any_eq_true]
    constructor
    · rintro ⟨w, mem, grants⟩
      obtain ⟨j, rfl, lower, upper⟩ := Zones.mem_covering_iff.mp mem
      exact ⟨j, lower, upper, grants⟩
    · rintro ⟨j, lower, upper, grants⟩
      exact ⟨_, Zones.mem_covering_iff.mpr ⟨j, rfl, lower, upper⟩, grants⟩
  · have none_covers : z.covering n = [] := List.eq_nil_iff_forall_not_mem.mpr fun w mem => by
      obtain ⟨j, rfl, covers⟩ := Zones.mem_covering_iff.mp mem
      exact uncovered j covers
    rw [Zones.holds_eq, none_covers]
    exact if_pos rfl
  · rw [Zones.holds_eq, Zones.holds_eq, Zones.covering_set_of_reversed after before]

/-! ## The tables as bytes (R189) -/

@[simp] theorem Zone.toBytes_length (w : Zone) : w.toBytes.length = 10 := by
  simp [Zone.toBytes]

theorem Zones.toBytes_length (z : Zones) : z.toBytes.length = 49 := by
  have zones : (z.zones.toList.flatMap Zone.toBytes).length = 40 := by
    simp [List.length_flatMap]
  simp [Zones.toBytes, zones]

/-! ## Zone requests of a source with ADMIN (R182 to R184) -/

section
variable {s t : State} {f : Frame} {src : Source} {code : Byte} {args : List Byte}

theorem zoneRequest_of_beyond (src : Source) (s : State) (beyond : 3 < (byteAt args 0).toNat) :
    zoneRequest src args s = .plain .badIndex s :=
  dif_neg (Nat.not_lt.mpr beyond)

theorem rightsRequest_of_beyond (src : Source) (s : State) (beyond : 7 < (byteAt args 0).toNat) :
    rightsRequest src args s = .plain .badIndex s :=
  dif_neg (Nat.not_lt.mpr beyond)

theorem zoneRequest_of_within (admin : s.zones.admin src = true) (within : (byteAt args 0).toNat < 4) :
    zoneRequest src args s = if s.zones.locked then zoneAnswer .locked s else
      zoneAnswer .ok (s.modZones fun z => { z with zones := z.zones.set (byteAt args 0).toNat (zoneOfArgs args) }) :=
  (dif_pos within).trans (if_neg (by rw [admin]; decide))

theorem rightsRequest_of_within (admin : s.zones.admin src = true) (within : (byteAt args 0).toNat < 8) :
    rightsRequest src args s = if s.zones.locked then zoneAnswer .locked s else
      zoneAnswer .ok (s.modZones fun z =>
        { z with rights := z.rights.set (byteAt args 0).toNat (SourceRights.ofByte (byteAt args 1)) }) :=
  (dif_pos within).trans (if_neg (by rw [admin]; decide))

theorem lockRequest_of_admin (admin : s.zones.admin src = true) (args : List Byte) :
    lockRequest src args s = if s.zones.locked then zoneAnswer .locked s else
      zoneAnswer .ok (s.modZones fun z => { z with locked := true }) :=
  if_neg (by rw [admin]; decide)

/-- A request that leaves the machine as `t` and is answered with the tables as they stand there. -/
theorem takeRequest_zoneAnswer (h : Taking s f src code args) {k : Source → List Byte → State → Answer}
    {status : Status} (hk : k src args s.dropRequest = zoneAnswer status t.dropRequest) :
    takeRequest code k s = t.answered f code status t.zones.toBytes :=
  (takeRequest_answer h hk).trans (respond_dropRequest t f code status t.zones.toBytes)

/-- A request that changes the zone block only and is answered with the tables as they then stand. -/
theorem takeRequest_modZones (h : Taking s f src code args) {k : Source → List Byte → State → Answer}
    {status : Status} {g : Zones → Zones}
    (hk : k src args s.dropRequest = zoneAnswer status (s.dropRequest.modZones g)) :
    takeRequest code k s = (s.modZones g).answered f code status (g s.zones).toBytes :=
  takeRequest_zoneAnswer (t := s.modZones g) h hk

end

/-- Settles O50: the index is checked before the right, and the lock before the tables are touched. -/
theorem zoneRequestsReplaceOneEntry : Obligations.ZoneRequestsReplaceOneEntry := by
  rintro s f src args a rfl
  refine ⟨fun h beyond => ?_, fun h beyond => ?_, fun admin => ⟨fun locked => ?_, fun unlocked => ⟨?_, ?_, ?_⟩⟩,
    s.zones.toBytes_length⟩
  · exact congrArg Host.Outcome.next (takeRequest_plain h (zoneRequest_of_beyond src _ beyond))
  · exact congrArg Host.Outcome.next (takeRequest_plain h (rightsRequest_of_beyond src _ beyond))
  · simp only [List.forall_mem_cons]
    refine ⟨fun h zone _ => ?_, fun h _ entry => ?_, fun h _ _ => ?_, nofun⟩
    · have request := zoneRequest_of_within (s := s.dropRequest) admin (Nat.lt_succ_of_le (zone trivial))
      exact congrArg Host.Outcome.next (takeRequest_zoneAnswer h (request.trans (if_pos locked)))
    · have request := rightsRequest_of_within (s := s.dropRequest) admin (Nat.lt_succ_of_le (entry trivial))
      exact congrArg Host.Outcome.next (takeRequest_zoneAnswer h (request.trans (if_pos locked)))
    · have request := lockRequest_of_admin (s := s.dropRequest) admin args
      exact congrArg Host.Outcome.next (takeRequest_zoneAnswer h (request.trans (if_pos locked)))
  all_goals have still_open : ¬ s.zones.locked = true := Bool.eq_false_iff.mp unlocked
  · rintro ⟨_, lt⟩ _ h rfl rfl
    have request := zoneRequest_of_within (s := s.dropRequest) admin lt
    exact ⟨_, congrArg Host.Outcome.next (takeRequest_modZones h (request.trans (if_neg still_open))), rfl⟩
  · rintro ⟨_, lt⟩ _ h rfl rfl
    have request := rightsRequest_of_within (s := s.dropRequest) admin lt
    exact ⟨_, congrArg Host.Outcome.next (takeRequest_modZones h (request.trans (if_neg still_open))), rfl⟩
  · intro h
    have request := lockRequest_of_admin (s := s.dropRequest) admin args
    exact ⟨_, congrArg Host.Outcome.next (takeRequest_modZones h (request.trans (if_neg still_open))), rfl⟩

end Sys2Proof.Machine
end

section
/-!
PROOFS. A step takes the front of the queue (O1, section 0.4), and the table records come back out of their bytes
(O41, Table 12-5, R190): fields of whole bytes by `ofNat_fieldAt_of_beBytes`, fields that share a byte by its bits.
-/

namespace Sys2Proof.Machine

/-! ## Steps (section 0.4) -/

theorem step_of_front {s : State} {c : Instr} {rest : List Instr} (front : s.pending = c :: rest) :
    step s = exec c { s with pending := rest } := by
  unfold step
  rw [front]

theorem step_of_empty {s : State} (empty : s.pending = []) : step s = .next s := by
  unfold step
  rw [empty]

/-- Settles O1: by the two forms of the queue; a command put at the front leaves the queue it found as the rest. -/
theorem stepRunsTheFrontCommand : Obligations.StepRunsTheFrontCommand :=
  ⟨fun _ _ _ => step_of_front, fun c s => step_of_front (s := s.withCommand c) rfl, fun _ => step_of_empty⟩

/-! ## Fields within a byte -/

theorem toNat_ofNat_eight {v : Nat} (small : v < 256) : (BitVec.ofNat 8 v).toNat = v :=
  (BitVec.toNat_ofNat v 8).trans (Nat.mod_eq_of_lt small)

theorem bitsAt_ofNat {v : Nat} (small : v < 256) (i k : Nat) : bitsAt (BitVec.ofNat 8 v) i k = v / 2 ^ i % 2 ^ k := by
  unfold bitsAt
  rw [toNat_ofNat_eight small]

/-- A flag that is sent as bit `i` of a byte is that bit. -/
theorem getLsbD_of_bitsAt {b : Byte} {i : Nat} {flag : Bool} (h : bitsAt b i 1 = flag.toNat) : b.getLsbD i = flag := by
  have bit : b.getLsbD i = decide (bitsAt b i 1 = 1) := Nat.testBit_eq_decide_div_mod_eq
  rw [bit, h]
  cases flag <;> rfl

theorem TriggerMode.code_le (m : TriggerMode) : m.code ≤ 2 := by cases m <;> decide

theorem TriggerMode.ofCode_code (m : TriggerMode) : TriggerMode.ofCode m.code = m := by cases m <;> rfl

theorem MemberSource.code_le (x : MemberSource) : x.code ≤ 2 := by cases x <;> decide

theorem MemberSource.ofCode_code (x : MemberSource) : MemberSource.ofCode x.code = x := by cases x <;> rfl

/-! ## Fields of whole bytes -/

/-- A field that stands in `k` bytes wide enough for it comes back out of them. -/
theorem ofNat_fieldAt_of_beBytes {w i k : Nat} {r : List Byte} {x : BitVec w} (wide : 2 ^ w ≤ 256 ^ k)
    (here : (r.drop i).take k = beBytes k x.toNat) : BitVec.ofNat w (fieldAt r i k) = x := by
  unfold fieldAt
  rw [here, beNat_beBytes, Nat.mod_eq_of_lt (x.isLt.trans_le wide), BitVec.ofNat_toNat, BitVec.setWidth_eq]

/-- A field of 6 bits comes back out of its byte. -/
theorem setWidth_six_setWidth_eight (x : BitVec 6) : (x.setWidth 8).setWidth 6 = x := by
  rw [BitVec.setWidth_setWidth_of_le x (by decide), BitVec.setWidth_eq]

theorem setWidth_eight_lt (x : BitVec 6) : (x.setWidth 8).toNat < 64 := by
  rw [BitVec.toNat_setWidth_of_le (by decide)]
  exact x.isLt

/-! ## Slot configuration records -/

/-- The number sent as the first byte of a slot configuration record. -/
def SlotCfg.flags (c : SlotCfg) : Nat :=
  c.enabled.toNat + 2 * c.notify.toNat + 4 * c.emptyAlert.toNat + 8 * c.urgentClass.toNat + 16 * c.mode.code

theorem SlotCfg.byteAt_toBytes_zero (c : SlotCfg) : byteAt c.toBytes 0 = BitVec.ofNat 8 c.flags := rfl

/-- The flags and the mode stand in the first byte, each in bits of its own; the two high bits are zero. -/
theorem SlotCfg.bitsAt_flags (c : SlotCfg) :
    bitsAt (byteAt c.toBytes 0) 0 1 = c.enabled.toNat ∧ bitsAt (byteAt c.toBytes 0) 1 1 = c.notify.toNat
    ∧ bitsAt (byteAt c.toBytes 0) 2 1 = c.emptyAlert.toNat ∧ bitsAt (byteAt c.toBytes 0) 3 1 = c.urgentClass.toNat
    ∧ bitsAt (byteAt c.toBytes 0) 4 2 = c.mode.code ∧ bitsAt (byteAt c.toBytes 0) 6 2 = 0 := by
  have enabled := c.enabled.toNat_le
  have notify := c.notify.toNat_le
  have empty := c.emptyAlert.toNat_le
  have urgent := c.urgentClass.toNat_le
  have mode := c.mode.code_le
  have small : c.flags < 256 := by
    unfold flags
    omega
  simp only [byteAt_toBytes_zero, bitsAt_ofNat small]
  unfold flags
  omega

theorem SlotCfg.ofBytes_toBytes (c : SlotCfg) : SlotCfg.ofBytes c.toBytes = c := by
  obtain ⟨enabled, notify, empty, urgent, mode, -⟩ := c.bitsAt_flags
  have article := ofNat_fieldAt_of_beBytes (x := c.article) (r := c.toBytes) (i := 1) (k := 4) (by decide) rfl
  have unitWeight := ofNat_fieldAt_of_beBytes (x := c.unitWeight) (r := c.toBytes) (i := 5) (k := 2) (by decide) rfl
  have tare := ofNat_fieldAt_of_beBytes (x := c.tare) (r := c.toBytes) (i := 7) (k := 3) (by decide) rfl
  have width : (byteAt c.toBytes 11).setWidth 6 = c.width := setWidth_six_setWidth_eight _
  have threshold : (byteAt c.toBytes 12).setWidth 6 = c.threshold := setWidth_six_setWidth_eight _
  have band := ofNat_fieldAt_of_beBytes (x := c.band) (r := c.toBytes) (i := 13) (k := 2) (by decide) rfl
  have reorder := ofNat_fieldAt_of_beBytes (x := c.reorder) (r := c.toBytes) (i := 15) (k := 2) (by decide) rfl
  have clear := ofNat_fieldAt_of_beBytes (x := c.clear) (r := c.toBytes) (i := 17) (k := 2) (by decide) rfl
  have lead := ofNat_fieldAt_of_beBytes (x := c.lead) (r := c.toBytes) (i := 24) (k := 2) (by decide) rfl
  unfold SlotCfg.ofBytes
  rw [getLsbD_of_bitsAt enabled, getLsbD_of_bitsAt notify, getLsbD_of_bitsAt empty, getLsbD_of_bitsAt urgent, mode,
    TriggerMode.ofCode_code, article, unitWeight, tare, width, threshold, band, reorder, clear, lead]
  rfl

theorem slotReservedOk_toBytes (c : SlotCfg) : slotReservedOk c.toBytes = true := by
  obtain ⟨-, -, -, -, -, high⟩ := c.bitsAt_flags
  exact (slotReservedOk_iff _).mpr
    ⟨(bitsAt_six_two_eq_zero _).mp high, setWidth_eight_lt c.width, setWidth_eight_lt c.threshold, rfl⟩

/-! ## Channel map records -/

/-- The number sent as the second byte of a channel map record. -/
def ChanMap.flags (m : ChanMap) : Nat := m.route.isSome.toNat + 2 * m.source.code + 8 * m.invert.toNat

/-- Routed or not, a channel map record starts with a slot byte, 0 where there is none, and its flags. -/
theorem ChanMap.toBytes_eq (m : ChanMap) : m.toBytes =
    BitVec.ofNat 8 (m.route.elim 0 Fin.val) :: BitVec.ofNat 8 m.flags
      :: (beBytes 3 m.offset.toNat ++ beBytes 2 m.gain.toNat ++ [0]) := by
  obtain ⟨route, source, invert, offset, gain⟩ := m
  cases route with
  | none => simp [toBytes, routeBytes, flags]
  | some n => simp [toBytes, routeBytes, flags]

theorem ChanMap.bitsAt_flags (m : ChanMap) :
    bitsAt (byteAt m.toBytes 1) 0 1 = m.route.isSome.toNat ∧ bitsAt (byteAt m.toBytes 1) 1 2 = m.source.code
    ∧ bitsAt (byteAt m.toBytes 1) 3 1 = m.invert.toNat ∧ (byteAt m.toBytes 1).toNat < 16 := by
  have routed := m.route.isSome.toNat_le
  have source := m.source.code_le
  have invert := m.invert.toNat_le
  have small : m.flags < 16 := by
    unfold flags
    omega
  have here : byteAt m.toBytes 1 = BitVec.ofNat 8 m.flags := by
    rw [toBytes_eq]
    rfl
  have number : (BitVec.ofNat 8 m.flags).toNat = m.flags := toNat_ofNat_eight (by omega)
  simp only [here, bitsAt_ofNat (show m.flags < 256 by omega), number]
  unfold flags at small ⊢
  omega

/-- The slot byte is the slot exactly where the routed flag says so. -/
theorem ChanMap.route_toBytes (m : ChanMap) :
    (if m.route.isSome = true then some (slotOfByte (byteAt m.toBytes 0)) else none) = m.route := by
  have here : byteAt m.toBytes 0 = BitVec.ofNat 8 (m.route.elim 0 Fin.val) := by
    rw [toBytes_eq]
    rfl
  rw [here]
  cases m.route with
  | none => rfl
  | some n => exact congrArg some (Fin.ext (toNat_ofNat_eight n.isLt))

theorem ChanMap.ofBytes_toBytes (m : ChanMap) : ChanMap.ofBytes m.toBytes = m := by
  obtain ⟨routed, source, invert, -⟩ := m.bitsAt_flags
  have offset : BitVec.ofNat 24 (fieldAt m.toBytes 2 3) = m.offset :=
    ofNat_fieldAt_of_beBytes (by decide) (by rw [toBytes_eq]; rfl)
  have gain : BitVec.ofNat 16 (fieldAt m.toBytes 5 2) = m.gain :=
    ofNat_fieldAt_of_beBytes (by decide) (by rw [toBytes_eq]; rfl)
  unfold ChanMap.ofBytes
  rw [getLsbD_of_bitsAt routed, route_toBytes, source, MemberSource.ofCode_code, getLsbD_of_bitsAt invert, offset, gain]

theorem ChanMap.toBytes_length (m : ChanMap) : m.toBytes.length = 8 := by
  rw [toBytes_eq]
  rfl

theorem chanReservedOk_toBytes (m : ChanMap) : chanReservedOk m.toBytes = true := by
  obtain ⟨-, -, -, low⟩ := m.bitsAt_flags
  refine (chanReservedOk_iff _).mpr ⟨low, ?_⟩
  rw [m.toBytes_eq]
  rfl

/-! ## Roster records -/

theorem nodeOfAddress_nodeAddress (n : Node) : nodeOfAddress (nodeAddress n) = some n :=
  dif_pos ⟨Nat.succ_pos _, n.isLt⟩

/-- The byte of a roster entry names its node, and 0 names none. -/
theorem nodeOfAddress_entry (e : Option Node) : nodeOfAddress (e.elim 0 nodeAddress) = e := by
  cases e with
  | none => rfl
  | some n => exact nodeOfAddress_nodeAddress n

theorem entryAddress_le (e : Option Node) : e.elim 0 nodeAddress ≤ 32 := by
  cases e with
  | none => exact Nat.zero_le _
  | some n => exact n.isLt

theorem entryWrite_entryBytes (e old : Option Node) : entryWrite 0x1 (entryBytes e) old = some e := by
  have small := entryAddress_le e
  have number : (byteAt (entryBytes e) 0).toNat = e.elim 0 nodeAddress := toNat_ofNat_eight (small.trans_lt (by decide))
  unfold entryWrite
  rw [if_pos ⟨rfl, rfl, rfl⟩, if_pos (by decide), number, if_pos small, nodeOfAddress_entry]

/-- A header with its fields in range passes the checks, and its length needs no cut to 128. -/
theorem headerWrite_toBytes {h : RosterHeader} (old : RosterHeader) (length : h.length.toNat ≤ 128)
    (interleave : h.interleave.toNat ≤ 15) (timeout : h.timeout ≠ 0) : headerWrite 0xE h.toBytes old = some h := by
  have uncut : (if 128 < (byteAt h.toBytes 0).toNat then 128 else byteAt h.toBytes 0) = h.length :=
    if_neg (Nat.not_lt.mpr length)
  unfold headerWrite
  rw [if_pos ⟨rfl, fun _ => interleave, fun _ => timeout⟩, uncut]
  rfl

/-- Settles O41: per table, every field comes back out of the place its bytes have in the record. -/
theorem tableRecordsRoundTrip : Obligations.TableRecordsRoundTrip :=
  ⟨fun c => ⟨rfl, c.ofBytes_toBytes, slotReservedOk_toBytes c⟩,
    fun m => ⟨m.toBytes_length, m.ofBytes_toBytes, chanReservedOk_toBytes m⟩,
    entryWrite_entryBytes, fun _ old => headerWrite_toBytes old⟩

end Sys2Proof.Machine
end
